-- ==== Sys2Proof/Word.lean ====
section
/-!
DEFINITION. The two word types of the block: `DATA_W` = 8 and `ADDR_W` = 16 (spec/00_scope.md R5). Field extraction,
sign extension and byte order live in `Decode.lean` and `Machine/Operands.lean`, where a repair may mend them.
-/
namespace Sys2Proof

/-- A register half, a memory cell, an operand byte (R5 `DATA_W`). -/
abbrev Byte := BitVec 8

/-- An address, `PC`, `SP`, a register pair (R5 `ADDR_W`). -/
abbrev Word := BitVec 16

end Sys2Proof
end

