-- ==== Sys2Proof/WellFormed.lean ====
section
/-!
DEFINITION. Which terms of `Instr` are instructions a program can hold. Every operand byte and word is legal
(spec/30_encoding.md R156), so the one check is that the escape byte is "not an instruction of its own" (R154): a program
holds the secondary instruction itself.
-/
namespace Sys2Proof

/-- Why a term is no instruction. -/
inductive IllFormed where
  /-- The bytes 0xCB `op2` are the secondary-table instruction `op2` (R154, R385). -/
  | escapeAlone (op2 : Byte)
  deriving DecidableEq, Repr

/-- The checks, by name. -/
def Instr.check : Instr → Option IllFormed
  | .escape_CB op2 => some (.escapeAlone op2)
  | _ => none

/-- A well-formed instruction passes every check. -/
abbrev Instr.WellFormed (i : Instr) : Prop := i.check = none

end Sys2Proof
end

