-- ==== Sys2Proof/Decode.lean ====
section
/-!
DEFINITION. Decoding, total on any bytes, and the encoder. `primaryGrid` is the grid of spec/30_encoding.md R152 cell by
cell; the secondary table is decoded by its fields (R153, R346), through one constructor per field combination, so that a
statement can range over the operands. `encode` is written from the opcode values of the instruction rules (files 40 to 46).
-/
namespace Sys2Proof

/-- `hi :: lo` (R6, R7): the pair of two bytes, and the immediate `nn = byte2 :: byte1` (R145). -/
def pairOf (hi lo : Byte) : Word := hi ++ lo

/-- The high byte of a word. -/
def hiByte (w : Word) : Byte := w.extractLsb' 8 8

/-- The low byte of a word. -/
def loByte (w : Word) : Byte := w.extractLsb' 0 8

/-! ### The fields (R142 to R147) -/

/-- `x = op[7:6]`. -/
def fieldX (op : Byte) : BitVec 2 := op.extractLsb' 6 2

/-- `y = op[5:3]`. -/
def fieldY (op : Byte) : BitVec 3 := op.extractLsb' 3 3

/-- `z = op[2:0]`. -/
def fieldZ (op : Byte) : BitVec 3 := op.extractLsb' 0 3

/-- The register field (R143); `none` is the value 6, the byte at `(HL)`. -/
def Reg8.ofField (f : BitVec 3) : Option Reg8 :=
  #v[some .b, some .c, some .d, some .e, some .h, some .l, none, some .a].get f.toFin

/-- The rotate field of the secondary table (R147). -/
def RotOp.ofField (f : BitVec 3) : RotOp :=
  #v[.rlc, .rrc, .rl, .rr, .sla, .sra, .swap, .srl].get f.toFin

/-- The value of the register field that names a register (R143). -/
def Reg8.code : Reg8 → BitVec 3
  | .b => 0 | .c => 1 | .d => 2 | .e => 3 | .h => 4 | .l => 5 | .a => 7

/-- The value of the pair field in loads, increments, decrements and `ADD HL` (R144). -/
def Pair.code : Pair → BitVec 2
  | .bc => 0 | .de => 1 | .hl => 2 | .sp => 3

/-- The value of the pair field in `PUSH` and `POP` (R144). -/
def StackPair.code : StackPair → BitVec 2
  | .bc => 0 | .de => 1 | .hl => 2 | .af => 3

/-- The value of the condition field (R146). -/
def Cond.code : Cond → BitVec 2
  | .nz => 0 | .z => 1 | .nc => 2 | .c => 3

/-- The value of the operation field of the accumulator group (R147). -/
def AluOp.code : AluOp → BitVec 3
  | .add => 0 | .adc => 1 | .sub => 2 | .sbc => 3 | .and => 4 | .xor => 5 | .or => 6 | .cp => 7

/-- The value of the operation field of the rotates and shifts (R147). -/
def RotOp.code : RotOp → BitVec 3
  | .rlc => 0 | .rrc => 1 | .rl => 2 | .rr => 3 | .sla => 4 | .sra => 5 | .swap => 6 | .srl => 7

/-- The eleven unmapped primary bytes (R155). -/
def unmappedBytes : List Byte := [0xD3, 0xDB, 0xDD, 0xE3, 0xE4, 0xEB, 0xEC, 0xED, 0xF4, 0xFC, 0xFD]

/-! ### The constructors by operand

`Instr` has one constructor per row of the opcode table; these name the same constructors by the fields of the encoding. -/

/-- `LD d,r` (R200). -/
def Instr.ldRR : Reg8 → Reg8 → Instr
  | .b, .b => .ld_B_B | .b, .c => .ld_B_C | .b, .d => .ld_B_D | .b, .e => .ld_B_E | .b, .h => .ld_B_H
  | .b, .l => .ld_B_L | .b, .a => .ld_B_A
  | .c, .b => .ld_C_B | .c, .c => .ld_C_C | .c, .d => .ld_C_D | .c, .e => .ld_C_E | .c, .h => .ld_C_H
  | .c, .l => .ld_C_L | .c, .a => .ld_C_A
  | .d, .b => .ld_D_B | .d, .c => .ld_D_C | .d, .d => .ld_D_D | .d, .e => .ld_D_E | .d, .h => .ld_D_H
  | .d, .l => .ld_D_L | .d, .a => .ld_D_A
  | .e, .b => .ld_E_B | .e, .c => .ld_E_C | .e, .d => .ld_E_D | .e, .e => .ld_E_E | .e, .h => .ld_E_H
  | .e, .l => .ld_E_L | .e, .a => .ld_E_A
  | .h, .b => .ld_H_B | .h, .c => .ld_H_C | .h, .d => .ld_H_D | .h, .e => .ld_H_E | .h, .h => .ld_H_H
  | .h, .l => .ld_H_L | .h, .a => .ld_H_A
  | .l, .b => .ld_L_B | .l, .c => .ld_L_C | .l, .d => .ld_L_D | .l, .e => .ld_L_E | .l, .h => .ld_L_H
  | .l, .l => .ld_L_L | .l, .a => .ld_L_A
  | .a, .b => .ld_A_B | .a, .c => .ld_A_C | .a, .d => .ld_A_D | .a, .e => .ld_A_E | .a, .h => .ld_A_H
  | .a, .l => .ld_A_L | .a, .a => .ld_A_A

/-- `LD r,n` (R201). -/
def Instr.ldRN : Reg8 → Byte → Instr
  | .b, n => .ld_B_n n | .c, n => .ld_C_n n | .d, n => .ld_D_n n | .e, n => .ld_E_n n | .h, n => .ld_H_n n
  | .l, n => .ld_L_n n | .a, n => .ld_A_n n

/-- `LD r,(HL)` (R202). -/
def Instr.ldRM : Reg8 → Instr
  | .b => .ld_B_mHL | .c => .ld_C_mHL | .d => .ld_D_mHL | .e => .ld_E_mHL | .h => .ld_H_mHL | .l => .ld_L_mHL
  | .a => .ld_A_mHL

/-- `LD (HL),r` (R203). -/
def Instr.ldMR : Reg8 → Instr
  | .b => .ld_mHL_B | .c => .ld_mHL_C | .d => .ld_mHL_D | .e => .ld_mHL_E | .h => .ld_mHL_H | .l => .ld_mHL_L
  | .a => .ld_mHL_A

/-- `LD rp,nn` (R240). -/
def Instr.ldRpNN : Pair → Word → Instr
  | .bc, nn => .ld_BC_nn nn | .de, nn => .ld_DE_nn nn | .hl, nn => .ld_HL_nn nn | .sp, nn => .ld_SP_nn nn

/-- `PUSH rp2` (R245). -/
def Instr.push : StackPair → Instr
  | .bc => .push_BC | .de => .push_DE | .hl => .push_HL | .af => .push_AF

/-- `POP rp2` (R246). -/
def Instr.pop : StackPair → Instr
  | .bc => .pop_BC | .de => .pop_DE | .hl => .pop_HL | .af => .pop_AF

/-- `alu A,r` (R260 to R281). -/
def Instr.aluR : AluOp → Reg8 → Instr
  | .add, .b => .add_A_B | .add, .c => .add_A_C | .add, .d => .add_A_D | .add, .e => .add_A_E | .add, .h => .add_A_H
  | .add, .l => .add_A_L | .add, .a => .add_A_A
  | .adc, .b => .adc_A_B | .adc, .c => .adc_A_C | .adc, .d => .adc_A_D | .adc, .e => .adc_A_E | .adc, .h => .adc_A_H
  | .adc, .l => .adc_A_L | .adc, .a => .adc_A_A
  | .sub, .b => .sub_B | .sub, .c => .sub_C | .sub, .d => .sub_D | .sub, .e => .sub_E | .sub, .h => .sub_H
  | .sub, .l => .sub_L | .sub, .a => .sub_A
  | .sbc, .b => .sbc_A_B | .sbc, .c => .sbc_A_C | .sbc, .d => .sbc_A_D | .sbc, .e => .sbc_A_E | .sbc, .h => .sbc_A_H
  | .sbc, .l => .sbc_A_L | .sbc, .a => .sbc_A_A
  | .and, .b => .and_B | .and, .c => .and_C | .and, .d => .and_D | .and, .e => .and_E | .and, .h => .and_H
  | .and, .l => .and_L | .and, .a => .and_A
  | .xor, .b => .xor_B | .xor, .c => .xor_C | .xor, .d => .xor_D | .xor, .e => .xor_E | .xor, .h => .xor_H
  | .xor, .l => .xor_L | .xor, .a => .xor_A
  | .or, .b => .or_B | .or, .c => .or_C | .or, .d => .or_D | .or, .e => .or_E | .or, .h => .or_H | .or, .l => .or_L
  | .or, .a => .or_A
  | .cp, .b => .cp_B | .cp, .c => .cp_C | .cp, .d => .cp_D | .cp, .e => .cp_E | .cp, .h => .cp_H | .cp, .l => .cp_L
  | .cp, .a => .cp_A

/-- `alu A,(HL)` (R261 to R282). -/
def Instr.aluM : AluOp → Instr
  | .add => .add_A_mHL | .adc => .adc_A_mHL | .sub => .sub_mHL | .sbc => .sbc_A_mHL | .and => .and_mHL
  | .xor => .xor_mHL | .or => .or_mHL | .cp => .cp_mHL

/-- `alu A,n` (R262 to R283). -/
def Instr.aluN : AluOp → Byte → Instr
  | .add, n => .add_A_n n | .adc, n => .adc_A_n n | .sub, n => .sub_n n | .sbc, n => .sbc_A_n n | .and, n => .and_n n
  | .xor, n => .xor_n n | .or, n => .or_n n | .cp, n => .cp_n n

/-- `INC r` (R284). -/
def Instr.incR : Reg8 → Instr
  | .b => .inc_B | .c => .inc_C | .d => .inc_D | .e => .inc_E | .h => .inc_H | .l => .inc_L | .a => .inc_A

/-- `DEC r` (R286). -/
def Instr.decR : Reg8 → Instr
  | .b => .dec_B | .c => .dec_C | .d => .dec_D | .e => .dec_E | .h => .dec_H | .l => .dec_L | .a => .dec_A

/-- `ADD HL,rp` (R310). -/
def Instr.addHlRp : Pair → Instr
  | .bc => .add_HL_BC | .de => .add_HL_DE | .hl => .add_HL_HL | .sp => .add_HL_SP

/-- `INC rp` (R311). -/
def Instr.incRp : Pair → Instr
  | .bc => .inc_BC | .de => .inc_DE | .hl => .inc_HL | .sp => .inc_SP

/-- `DEC rp` (R312). -/
def Instr.decRp : Pair → Instr
  | .bc => .dec_BC | .de => .dec_DE | .hl => .dec_HL | .sp => .dec_SP

/-- `JP cc,nn` (R361). -/
def Instr.jpCc : Cond → Word → Instr
  | .nz, nn => .jp_NZ_nn nn | .z, nn => .jp_Z_nn nn | .nc, nn => .jp_NC_nn nn | .c, nn => .jp_C_nn nn

/-- `JR cc,e` (R364). -/
def Instr.jrCc : Cond → Byte → Instr
  | .nz, e => .jr_NZ_e e | .z, e => .jr_Z_e e | .nc, e => .jr_NC_e e | .c, e => .jr_C_e e

/-- `CALL cc,nn` (R366). -/
def Instr.callCc : Cond → Word → Instr
  | .nz, nn => .call_NZ_nn nn | .z, nn => .call_Z_nn nn | .nc, nn => .call_NC_nn nn | .c, nn => .call_C_nn nn

/-- `RET cc` (R368). -/
def Instr.retCc : Cond → Instr
  | .nz => .ret_NZ | .z => .ret_Z | .nc => .ret_NC | .c => .ret_C

/-- `RST y*8` (R370). -/
def Instr.rst (y : Fin 8) : Instr :=
  #v[.rst_00, .rst_08, .rst_10, .rst_18, .rst_20, .rst_28, .rst_30, .rst_38].get y

/-- `rot r` (R324 to R338). -/
def Instr.rotR : RotOp → Reg8 → Instr
  | .rlc, .b => .rlc_B | .rlc, .c => .rlc_C | .rlc, .d => .rlc_D | .rlc, .e => .rlc_E | .rlc, .h => .rlc_H
  | .rlc, .l => .rlc_L | .rlc, .a => .rlc_A
  | .rrc, .b => .rrc_B | .rrc, .c => .rrc_C | .rrc, .d => .rrc_D | .rrc, .e => .rrc_E | .rrc, .h => .rrc_H
  | .rrc, .l => .rrc_L | .rrc, .a => .rrc_A
  | .rl, .b => .rl_B | .rl, .c => .rl_C | .rl, .d => .rl_D | .rl, .e => .rl_E | .rl, .h => .rl_H | .rl, .l => .rl_L
  | .rl, .a => .rl_A
  | .rr, .b => .rr_B | .rr, .c => .rr_C | .rr, .d => .rr_D | .rr, .e => .rr_E | .rr, .h => .rr_H | .rr, .l => .rr_L
  | .rr, .a => .rr_A
  | .sla, .b => .sla_B | .sla, .c => .sla_C | .sla, .d => .sla_D | .sla, .e => .sla_E | .sla, .h => .sla_H
  | .sla, .l => .sla_L | .sla, .a => .sla_A
  | .sra, .b => .sra_B | .sra, .c => .sra_C | .sra, .d => .sra_D | .sra, .e => .sra_E | .sra, .h => .sra_H
  | .sra, .l => .sra_L | .sra, .a => .sra_A
  | .swap, .b => .swap_B | .swap, .c => .swap_C | .swap, .d => .swap_D | .swap, .e => .swap_E | .swap, .h => .swap_H
  | .swap, .l => .swap_L | .swap, .a => .swap_A
  | .srl, .b => .srl_B | .srl, .c => .srl_C | .srl, .d => .srl_D | .srl, .e => .srl_E | .srl, .h => .srl_H
  | .srl, .l => .srl_L | .srl, .a => .srl_A

/-- `rot (HL)` (R325 to R339). -/
def Instr.rotM : RotOp → Instr
  | .rlc => .rlc_mHL | .rrc => .rrc_mHL | .rl => .rl_mHL | .rr => .rr_mHL | .sla => .sla_mHL | .sra => .sra_mHL
  | .swap => .swap_mHL | .srl => .srl_mHL

/-- `BIT b,r` (R340). -/
def Instr.bitR (b : Fin 8) : Reg8 → Instr
  | .b => #v[.bit_0_B, .bit_1_B, .bit_2_B, .bit_3_B, .bit_4_B, .bit_5_B, .bit_6_B, .bit_7_B].get b
  | .c => #v[.bit_0_C, .bit_1_C, .bit_2_C, .bit_3_C, .bit_4_C, .bit_5_C, .bit_6_C, .bit_7_C].get b
  | .d => #v[.bit_0_D, .bit_1_D, .bit_2_D, .bit_3_D, .bit_4_D, .bit_5_D, .bit_6_D, .bit_7_D].get b
  | .e => #v[.bit_0_E, .bit_1_E, .bit_2_E, .bit_3_E, .bit_4_E, .bit_5_E, .bit_6_E, .bit_7_E].get b
  | .h => #v[.bit_0_H, .bit_1_H, .bit_2_H, .bit_3_H, .bit_4_H, .bit_5_H, .bit_6_H, .bit_7_H].get b
  | .l => #v[.bit_0_L, .bit_1_L, .bit_2_L, .bit_3_L, .bit_4_L, .bit_5_L, .bit_6_L, .bit_7_L].get b
  | .a => #v[.bit_0_A, .bit_1_A, .bit_2_A, .bit_3_A, .bit_4_A, .bit_5_A, .bit_6_A, .bit_7_A].get b

/-- `BIT b,(HL)` (R341). -/
def Instr.bitM (y : Fin 8) : Instr :=
  #v[.bit_0_mHL, .bit_1_mHL, .bit_2_mHL, .bit_3_mHL, .bit_4_mHL, .bit_5_mHL, .bit_6_mHL, .bit_7_mHL].get y

/-- `RES b,r` (R342). -/
def Instr.resR (b : Fin 8) : Reg8 → Instr
  | .b => #v[.res_0_B, .res_1_B, .res_2_B, .res_3_B, .res_4_B, .res_5_B, .res_6_B, .res_7_B].get b
  | .c => #v[.res_0_C, .res_1_C, .res_2_C, .res_3_C, .res_4_C, .res_5_C, .res_6_C, .res_7_C].get b
  | .d => #v[.res_0_D, .res_1_D, .res_2_D, .res_3_D, .res_4_D, .res_5_D, .res_6_D, .res_7_D].get b
  | .e => #v[.res_0_E, .res_1_E, .res_2_E, .res_3_E, .res_4_E, .res_5_E, .res_6_E, .res_7_E].get b
  | .h => #v[.res_0_H, .res_1_H, .res_2_H, .res_3_H, .res_4_H, .res_5_H, .res_6_H, .res_7_H].get b
  | .l => #v[.res_0_L, .res_1_L, .res_2_L, .res_3_L, .res_4_L, .res_5_L, .res_6_L, .res_7_L].get b
  | .a => #v[.res_0_A, .res_1_A, .res_2_A, .res_3_A, .res_4_A, .res_5_A, .res_6_A, .res_7_A].get b

/-- `RES b,(HL)` (R343). -/
def Instr.resM (y : Fin 8) : Instr :=
  #v[.res_0_mHL, .res_1_mHL, .res_2_mHL, .res_3_mHL, .res_4_mHL, .res_5_mHL, .res_6_mHL, .res_7_mHL].get y

/-- `SET b,r` (R344). -/
def Instr.setR (b : Fin 8) : Reg8 → Instr
  | .b => #v[.set_0_B, .set_1_B, .set_2_B, .set_3_B, .set_4_B, .set_5_B, .set_6_B, .set_7_B].get b
  | .c => #v[.set_0_C, .set_1_C, .set_2_C, .set_3_C, .set_4_C, .set_5_C, .set_6_C, .set_7_C].get b
  | .d => #v[.set_0_D, .set_1_D, .set_2_D, .set_3_D, .set_4_D, .set_5_D, .set_6_D, .set_7_D].get b
  | .e => #v[.set_0_E, .set_1_E, .set_2_E, .set_3_E, .set_4_E, .set_5_E, .set_6_E, .set_7_E].get b
  | .h => #v[.set_0_H, .set_1_H, .set_2_H, .set_3_H, .set_4_H, .set_5_H, .set_6_H, .set_7_H].get b
  | .l => #v[.set_0_L, .set_1_L, .set_2_L, .set_3_L, .set_4_L, .set_5_L, .set_6_L, .set_7_L].get b
  | .a => #v[.set_0_A, .set_1_A, .set_2_A, .set_3_A, .set_4_A, .set_5_A, .set_6_A, .set_7_A].get b

/-- `SET b,(HL)` (R345). -/
def Instr.setM (y : Fin 8) : Instr :=
  #v[.set_0_mHL, .set_1_mHL, .set_2_mHL, .set_3_mHL, .set_4_mHL, .set_5_mHL, .set_6_mHL, .set_7_mHL].get y

/-! ### The tables -/

/-- One cell of the primary table: the format of R141 and the instruction it makes of its operand bytes. -/
inductive Entry where
  | op (i : Instr)
  | opN (f : Byte → Instr)
  | opE (f : Byte → Instr)
  | opNN (f : Word → Instr)
  | opX (f : Byte → Instr)
  | cbOp
  | illegal (i : Instr)

/-- The length in bytes (R140, R150). An unmapped byte has none; the fault leaves `PC` at it. -/
def Entry.length : Entry → Nat
  | .op _ => 1
  | .opN _ => 2
  | .opE _ => 2
  | .opNN _ => 3
  | .opX _ => 2
  | .cbOp => 2
  | .illegal _ => 1

/-- Row 0x of the grid of R152. -/
def primaryRow0 : Vector Entry 16 :=
  #v[.op .nop, .opNN .ld_BC_nn, .op .ld_mBC_A, .op .inc_BC, .op .inc_B, .op .dec_B, .opN .ld_B_n, .op .rlca,
    .opNN .ld_mnn_SP, .op .add_HL_BC, .op .ld_A_mBC, .op .dec_BC, .op .inc_C, .op .dec_C, .opN .ld_C_n, .op .rrca]

/-- Row 1x of the grid of R152. -/
def primaryRow1 : Vector Entry 16 :=
  #v[.opX .stop, .opNN .ld_DE_nn, .op .ld_mDE_A, .op .inc_DE, .op .inc_D, .op .dec_D, .opN .ld_D_n, .op .rla,
    .opE .jr_e, .op .add_HL_DE, .op .ld_A_mDE, .op .dec_DE, .op .inc_E, .op .dec_E, .opN .ld_E_n, .op .rra]

/-- Row 2x of the grid of R152. -/
def primaryRow2 : Vector Entry 16 :=
  #v[.opE .jr_NZ_e, .opNN .ld_HL_nn, .op .ld_mHLi_A, .op .inc_HL, .op .inc_H, .op .dec_H, .opN .ld_H_n, .op .daa,
    .opE .jr_Z_e, .op .add_HL_HL, .op .ld_A_mHLi, .op .dec_HL, .op .inc_L, .op .dec_L, .opN .ld_L_n, .op .cpl]

/-- Row 3x of the grid of R152. -/
def primaryRow3 : Vector Entry 16 :=
  #v[.opE .jr_NC_e, .opNN .ld_SP_nn, .op .ld_mHLd_A, .op .inc_SP, .op .inc_mHL, .op .dec_mHL, .opN .ld_mHL_n,
    .op .scf, .opE .jr_C_e, .op .add_HL_SP, .op .ld_A_mHLd, .op .dec_SP, .op .inc_A, .op .dec_A, .opN .ld_A_n,
    .op .ccf]

/-- Row 4x of the grid of R152. -/
def primaryRow4 : Vector Entry 16 :=
  #v[.op .ld_B_B, .op .ld_B_C, .op .ld_B_D, .op .ld_B_E, .op .ld_B_H, .op .ld_B_L, .op .ld_B_mHL, .op .ld_B_A,
    .op .ld_C_B, .op .ld_C_C, .op .ld_C_D, .op .ld_C_E, .op .ld_C_H, .op .ld_C_L, .op .ld_C_mHL, .op .ld_C_A]

/-- Row 5x of the grid of R152. -/
def primaryRow5 : Vector Entry 16 :=
  #v[.op .ld_D_B, .op .ld_D_C, .op .ld_D_D, .op .ld_D_E, .op .ld_D_H, .op .ld_D_L, .op .ld_D_mHL, .op .ld_D_A,
    .op .ld_E_B, .op .ld_E_C, .op .ld_E_D, .op .ld_E_E, .op .ld_E_H, .op .ld_E_L, .op .ld_E_mHL, .op .ld_E_A]

/-- Row 6x of the grid of R152. -/
def primaryRow6 : Vector Entry 16 :=
  #v[.op .ld_H_B, .op .ld_H_C, .op .ld_H_D, .op .ld_H_E, .op .ld_H_H, .op .ld_H_L, .op .ld_H_mHL, .op .ld_H_A,
    .op .ld_L_B, .op .ld_L_C, .op .ld_L_D, .op .ld_L_E, .op .ld_L_H, .op .ld_L_L, .op .ld_L_mHL, .op .ld_L_A]

/-- Row 7x of the grid of R152. -/
def primaryRow7 : Vector Entry 16 :=
  #v[.op .ld_mHL_B, .op .ld_mHL_C, .op .ld_mHL_D, .op .ld_mHL_E, .op .ld_mHL_H, .op .ld_mHL_L, .op .halt,
    .op .ld_mHL_A, .op .ld_A_B, .op .ld_A_C, .op .ld_A_D, .op .ld_A_E, .op .ld_A_H, .op .ld_A_L, .op .ld_A_mHL,
    .op .ld_A_A]

/-- Row 8x of the grid of R152. -/
def primaryRow8 : Vector Entry 16 :=
  #v[.op .add_A_B, .op .add_A_C, .op .add_A_D, .op .add_A_E, .op .add_A_H, .op .add_A_L, .op .add_A_mHL,
    .op .add_A_A, .op .adc_A_B, .op .adc_A_C, .op .adc_A_D, .op .adc_A_E, .op .adc_A_H, .op .adc_A_L,
    .op .adc_A_mHL, .op .adc_A_A]

/-- Row 9x of the grid of R152. -/
def primaryRow9 : Vector Entry 16 :=
  #v[.op .sub_B, .op .sub_C, .op .sub_D, .op .sub_E, .op .sub_H, .op .sub_L, .op .sub_mHL, .op .sub_A, .op .sbc_A_B,
    .op .sbc_A_C, .op .sbc_A_D, .op .sbc_A_E, .op .sbc_A_H, .op .sbc_A_L, .op .sbc_A_mHL, .op .sbc_A_A]

/-- Row Ax of the grid of R152. -/
def primaryRowA : Vector Entry 16 :=
  #v[.op .and_B, .op .and_C, .op .and_D, .op .and_E, .op .and_H, .op .and_L, .op .and_mHL, .op .and_A, .op .xor_B,
    .op .xor_C, .op .xor_D, .op .xor_E, .op .xor_H, .op .xor_L, .op .xor_mHL, .op .xor_A]

/-- Row Bx of the grid of R152. -/
def primaryRowB : Vector Entry 16 :=
  #v[.op .or_B, .op .or_C, .op .or_D, .op .or_E, .op .or_H, .op .or_L, .op .or_mHL, .op .or_A, .op .cp_B, .op .cp_C,
    .op .cp_D, .op .cp_E, .op .cp_H, .op .cp_L, .op .cp_mHL, .op .cp_A]

/-- Row Cx of the grid of R152. -/
def primaryRowC : Vector Entry 16 :=
  #v[.op .ret_NZ, .op .pop_BC, .opNN .jp_NZ_nn, .opNN .jp_nn, .opNN .call_NZ_nn, .op .push_BC, .opN .add_A_n,
    .op .rst_00, .op .ret_Z, .op .ret, .opNN .jp_Z_nn, .cbOp, .opNN .call_Z_nn, .opNN .call_nn, .opN .adc_A_n,
    .op .rst_08]

/-- Row Dx of the grid of R152. -/
def primaryRowD : Vector Entry 16 :=
  #v[.op .ret_NC, .op .pop_DE, .opNN .jp_NC_nn, .illegal .illegal_D3, .opNN .call_NC_nn, .op .push_DE, .opN .sub_n,
    .op .rst_10, .op .ret_C, .op .reti, .opNN .jp_C_nn, .illegal .illegal_DB, .opNN .call_C_nn,
    .illegal .illegal_DD, .opN .sbc_A_n, .op .rst_18]

/-- Row Ex of the grid of R152. -/
def primaryRowE : Vector Entry 16 :=
  #v[.opN .ldh_mn_A, .op .pop_HL, .op .ldh_mC_A, .illegal .illegal_E3, .illegal .illegal_E4, .op .push_HL,
    .opN .and_n, .op .rst_20, .opE .add_SP_e, .op .jp_HL, .opNN .ld_mnn_A, .illegal .illegal_EB,
    .illegal .illegal_EC, .illegal .illegal_ED, .opN .xor_n, .op .rst_28]

/-- Row Fx of the grid of R152. -/
def primaryRowF : Vector Entry 16 :=
  #v[.opN .ldh_A_mn, .op .pop_AF, .op .ldh_A_mC, .op .di, .illegal .illegal_F4, .op .push_AF, .opN .or_n,
    .op .rst_30, .opE .ld_HL_SPe, .op .ld_SP_HL, .opNN .ld_A_mnn, .op .ei, .illegal .illegal_FC,
    .illegal .illegal_FD, .opN .cp_n, .op .rst_38]

/-- The grid of R152: row = high nibble, column = low nibble. -/
def primaryGrid : Vector (Vector Entry 16) 16 :=
  #v[primaryRow0, primaryRow1, primaryRow2, primaryRow3, primaryRow4, primaryRow5, primaryRow6, primaryRow7,
    primaryRow8, primaryRow9, primaryRowA, primaryRowB, primaryRowC, primaryRowD, primaryRowE, primaryRowF]

/-- The primary table (R151, R152). -/
def primary (op : Byte) : Entry :=
  (primaryGrid.get (op.extractLsb' 4 4).toFin).get (op.extractLsb' 0 4).toFin

/-- The secondary table by fields (R153, R346). Every byte is mapped. -/
def secondary (op2 : Byte) : Instr :=
  let y := (fieldY op2).toFin
  if fieldX op2 = 0 then
    match Reg8.ofField (fieldZ op2) with
    | some r => .rotR (.ofField (fieldY op2)) r
    | none => .rotM (.ofField (fieldY op2))
  else if fieldX op2 = 1 then
    match Reg8.ofField (fieldZ op2) with
    | some r => .bitR y r
    | none => .bitM y
  else if fieldX op2 = 2 then
    match Reg8.ofField (fieldZ op2) with
    | some r => .resR y r
    | none => .resM y
  else
    match Reg8.ofField (fieldZ op2) with
    | some r => .setR y r
    | none => .setM y

/-! ### Decoding -/

/-- The instruction at the head of three bytes; bytes beyond its length are not looked at. -/
def decode3 (b0 b1 b2 : Byte) : Instr :=
  match primary b0 with
  | .op i => i
  | .opN f => f b1
  | .opE f => f b1
  | .opNN f => f (pairOf b2 b1)
  | .opX f => f b1
  | .cbOp => secondary b1
  | .illegal i => i

/-- Why a list of bytes does not begin with an instruction. -/
inductive DecodeError where
  /-- The list is empty. -/
  | noBytes
  /-- The opcode byte needs more operand bytes than the list has. -/
  | truncated (op : Byte)
  deriving DecidableEq, Repr

/-- Decode the instruction at the head of a list of bytes and give back the rest. An unmapped byte decodes to its row of
format `ILLEGAL`, whose meaning is the decode fault (R155). -/
def decode : List Byte → Except DecodeError (Instr × List Byte)
  | [] => .error .noBytes
  | b0 :: rest =>
    match primary b0, rest with
    | .op i, r => .ok (i, r)
    | .opN f, n :: r => .ok (f n, r)
    | .opE f, e :: r => .ok (f e, r)
    | .opNN f, lo :: hi :: r => .ok (f (pairOf hi lo), r)
    | .opX f, x :: r => .ok (f x, r)
    | .cbOp, op2 :: r => .ok (secondary op2, r)
    | .illegal i, r => .ok (i, r)
    | .opN _, [] => .error (.truncated b0)
    | .opE _, [] => .error (.truncated b0)
    | .opNN _, _ => .error (.truncated b0)
    | .opX _, [] => .error (.truncated b0)
    | .cbOp, [] => .error (.truncated b0)

/-! ### The encoder -/

/-- The bytes of an instruction, from the `Encoding:` lines of files 40 to 46. -/
def encode : Instr → List Byte
  | .nop => [0x00]
  | .ld_BC_nn nn => [0x01, loByte nn, hiByte nn]
  | .ld_mBC_A => [0x02]
  | .inc_BC => [0x03]
  | .inc_B => [0x04]
  | .dec_B => [0x05]
  | .ld_B_n n => [0x06, n]
  | .rlca => [0x07]
  | .ld_mnn_SP nn => [0x08, loByte nn, hiByte nn]
  | .add_HL_BC => [0x09]
  | .ld_A_mBC => [0x0A]
  | .dec_BC => [0x0B]
  | .inc_C => [0x0C]
  | .dec_C => [0x0D]
  | .ld_C_n n => [0x0E, n]
  | .rrca => [0x0F]
  | .stop pad => [0x10, pad]
  | .ld_DE_nn nn => [0x11, loByte nn, hiByte nn]
  | .ld_mDE_A => [0x12]
  | .inc_DE => [0x13]
  | .inc_D => [0x14]
  | .dec_D => [0x15]
  | .ld_D_n n => [0x16, n]
  | .rla => [0x17]
  | .jr_e e => [0x18, e]
  | .add_HL_DE => [0x19]
  | .ld_A_mDE => [0x1A]
  | .dec_DE => [0x1B]
  | .inc_E => [0x1C]
  | .dec_E => [0x1D]
  | .ld_E_n n => [0x1E, n]
  | .rra => [0x1F]
  | .jr_NZ_e e => [0x20, e]
  | .ld_HL_nn nn => [0x21, loByte nn, hiByte nn]
  | .ld_mHLi_A => [0x22]
  | .inc_HL => [0x23]
  | .inc_H => [0x24]
  | .dec_H => [0x25]
  | .ld_H_n n => [0x26, n]
  | .daa => [0x27]
  | .jr_Z_e e => [0x28, e]
  | .add_HL_HL => [0x29]
  | .ld_A_mHLi => [0x2A]
  | .dec_HL => [0x2B]
  | .inc_L => [0x2C]
  | .dec_L => [0x2D]
  | .ld_L_n n => [0x2E, n]
  | .cpl => [0x2F]
  | .jr_NC_e e => [0x30, e]
  | .ld_SP_nn nn => [0x31, loByte nn, hiByte nn]
  | .ld_mHLd_A => [0x32]
  | .inc_SP => [0x33]
  | .inc_mHL => [0x34]
  | .dec_mHL => [0x35]
  | .ld_mHL_n n => [0x36, n]
  | .scf => [0x37]
  | .jr_C_e e => [0x38, e]
  | .add_HL_SP => [0x39]
  | .ld_A_mHLd => [0x3A]
  | .dec_SP => [0x3B]
  | .inc_A => [0x3C]
  | .dec_A => [0x3D]
  | .ld_A_n n => [0x3E, n]
  | .ccf => [0x3F]
  | .ld_B_B => [0x40]
  | .ld_B_C => [0x41]
  | .ld_B_D => [0x42]
  | .ld_B_E => [0x43]
  | .ld_B_H => [0x44]
  | .ld_B_L => [0x45]
  | .ld_B_mHL => [0x46]
  | .ld_B_A => [0x47]
  | .ld_C_B => [0x48]
  | .ld_C_C => [0x49]
  | .ld_C_D => [0x4A]
  | .ld_C_E => [0x4B]
  | .ld_C_H => [0x4C]
  | .ld_C_L => [0x4D]
  | .ld_C_mHL => [0x4E]
  | .ld_C_A => [0x4F]
  | .ld_D_B => [0x50]
  | .ld_D_C => [0x51]
  | .ld_D_D => [0x52]
  | .ld_D_E => [0x53]
  | .ld_D_H => [0x54]
  | .ld_D_L => [0x55]
  | .ld_D_mHL => [0x56]
  | .ld_D_A => [0x57]
  | .ld_E_B => [0x58]
  | .ld_E_C => [0x59]
  | .ld_E_D => [0x5A]
  | .ld_E_E => [0x5B]
  | .ld_E_H => [0x5C]
  | .ld_E_L => [0x5D]
  | .ld_E_mHL => [0x5E]
  | .ld_E_A => [0x5F]
  | .ld_H_B => [0x60]
  | .ld_H_C => [0x61]
  | .ld_H_D => [0x62]
  | .ld_H_E => [0x63]
  | .ld_H_H => [0x64]
  | .ld_H_L => [0x65]
  | .ld_H_mHL => [0x66]
  | .ld_H_A => [0x67]
  | .ld_L_B => [0x68]
  | .ld_L_C => [0x69]
  | .ld_L_D => [0x6A]
  | .ld_L_E => [0x6B]
  | .ld_L_H => [0x6C]
  | .ld_L_L => [0x6D]
  | .ld_L_mHL => [0x6E]
  | .ld_L_A => [0x6F]
  | .ld_mHL_B => [0x70]
  | .ld_mHL_C => [0x71]
  | .ld_mHL_D => [0x72]
  | .ld_mHL_E => [0x73]
  | .ld_mHL_H => [0x74]
  | .ld_mHL_L => [0x75]
  | .halt => [0x76]
  | .ld_mHL_A => [0x77]
  | .ld_A_B => [0x78]
  | .ld_A_C => [0x79]
  | .ld_A_D => [0x7A]
  | .ld_A_E => [0x7B]
  | .ld_A_H => [0x7C]
  | .ld_A_L => [0x7D]
  | .ld_A_mHL => [0x7E]
  | .ld_A_A => [0x7F]
  | .add_A_B => [0x80]
  | .add_A_C => [0x81]
  | .add_A_D => [0x82]
  | .add_A_E => [0x83]
  | .add_A_H => [0x84]
  | .add_A_L => [0x85]
  | .add_A_mHL => [0x86]
  | .add_A_A => [0x87]
  | .adc_A_B => [0x88]
  | .adc_A_C => [0x89]
  | .adc_A_D => [0x8A]
  | .adc_A_E => [0x8B]
  | .adc_A_H => [0x8C]
  | .adc_A_L => [0x8D]
  | .adc_A_mHL => [0x8E]
  | .adc_A_A => [0x8F]
  | .sub_B => [0x90]
  | .sub_C => [0x91]
  | .sub_D => [0x92]
  | .sub_E => [0x93]
  | .sub_H => [0x94]
  | .sub_L => [0x95]
  | .sub_mHL => [0x96]
  | .sub_A => [0x97]
  | .sbc_A_B => [0x98]
  | .sbc_A_C => [0x99]
  | .sbc_A_D => [0x9A]
  | .sbc_A_E => [0x9B]
  | .sbc_A_H => [0x9C]
  | .sbc_A_L => [0x9D]
  | .sbc_A_mHL => [0x9E]
  | .sbc_A_A => [0x9F]
  | .and_B => [0xA0]
  | .and_C => [0xA1]
  | .and_D => [0xA2]
  | .and_E => [0xA3]
  | .and_H => [0xA4]
  | .and_L => [0xA5]
  | .and_mHL => [0xA6]
  | .and_A => [0xA7]
  | .xor_B => [0xA8]
  | .xor_C => [0xA9]
  | .xor_D => [0xAA]
  | .xor_E => [0xAB]
  | .xor_H => [0xAC]
  | .xor_L => [0xAD]
  | .xor_mHL => [0xAE]
  | .xor_A => [0xAF]
  | .or_B => [0xB0]
  | .or_C => [0xB1]
  | .or_D => [0xB2]
  | .or_E => [0xB3]
  | .or_H => [0xB4]
  | .or_L => [0xB5]
  | .or_mHL => [0xB6]
  | .or_A => [0xB7]
  | .cp_B => [0xB8]
  | .cp_C => [0xB9]
  | .cp_D => [0xBA]
  | .cp_E => [0xBB]
  | .cp_H => [0xBC]
  | .cp_L => [0xBD]
  | .cp_mHL => [0xBE]
  | .cp_A => [0xBF]
  | .ret_NZ => [0xC0]
  | .pop_BC => [0xC1]
  | .jp_NZ_nn nn => [0xC2, loByte nn, hiByte nn]
  | .jp_nn nn => [0xC3, loByte nn, hiByte nn]
  | .call_NZ_nn nn => [0xC4, loByte nn, hiByte nn]
  | .push_BC => [0xC5]
  | .add_A_n n => [0xC6, n]
  | .rst_00 => [0xC7]
  | .ret_Z => [0xC8]
  | .ret => [0xC9]
  | .jp_Z_nn nn => [0xCA, loByte nn, hiByte nn]
  | .escape_CB op2 => [0xCB, op2]
  | .call_Z_nn nn => [0xCC, loByte nn, hiByte nn]
  | .call_nn nn => [0xCD, loByte nn, hiByte nn]
  | .adc_A_n n => [0xCE, n]
  | .rst_08 => [0xCF]
  | .ret_NC => [0xD0]
  | .pop_DE => [0xD1]
  | .jp_NC_nn nn => [0xD2, loByte nn, hiByte nn]
  | .illegal_D3 => [0xD3]
  | .call_NC_nn nn => [0xD4, loByte nn, hiByte nn]
  | .push_DE => [0xD5]
  | .sub_n n => [0xD6, n]
  | .rst_10 => [0xD7]
  | .ret_C => [0xD8]
  | .reti => [0xD9]
  | .jp_C_nn nn => [0xDA, loByte nn, hiByte nn]
  | .illegal_DB => [0xDB]
  | .call_C_nn nn => [0xDC, loByte nn, hiByte nn]
  | .illegal_DD => [0xDD]
  | .sbc_A_n n => [0xDE, n]
  | .rst_18 => [0xDF]
  | .ldh_mn_A n => [0xE0, n]
  | .pop_HL => [0xE1]
  | .ldh_mC_A => [0xE2]
  | .illegal_E3 => [0xE3]
  | .illegal_E4 => [0xE4]
  | .push_HL => [0xE5]
  | .and_n n => [0xE6, n]
  | .rst_20 => [0xE7]
  | .add_SP_e e => [0xE8, e]
  | .jp_HL => [0xE9]
  | .ld_mnn_A nn => [0xEA, loByte nn, hiByte nn]
  | .illegal_EB => [0xEB]
  | .illegal_EC => [0xEC]
  | .illegal_ED => [0xED]
  | .xor_n n => [0xEE, n]
  | .rst_28 => [0xEF]
  | .ldh_A_mn n => [0xF0, n]
  | .pop_AF => [0xF1]
  | .ldh_A_mC => [0xF2]
  | .di => [0xF3]
  | .illegal_F4 => [0xF4]
  | .push_AF => [0xF5]
  | .or_n n => [0xF6, n]
  | .rst_30 => [0xF7]
  | .ld_HL_SPe e => [0xF8, e]
  | .ld_SP_HL => [0xF9]
  | .ld_A_mnn nn => [0xFA, loByte nn, hiByte nn]
  | .ei => [0xFB]
  | .illegal_FC => [0xFC]
  | .illegal_FD => [0xFD]
  | .cp_n n => [0xFE, n]
  | .rst_38 => [0xFF]
  | .rlc_B => [0xCB, 0x00]
  | .rlc_C => [0xCB, 0x01]
  | .rlc_D => [0xCB, 0x02]
  | .rlc_E => [0xCB, 0x03]
  | .rlc_H => [0xCB, 0x04]
  | .rlc_L => [0xCB, 0x05]
  | .rlc_mHL => [0xCB, 0x06]
  | .rlc_A => [0xCB, 0x07]
  | .rrc_B => [0xCB, 0x08]
  | .rrc_C => [0xCB, 0x09]
  | .rrc_D => [0xCB, 0x0A]
  | .rrc_E => [0xCB, 0x0B]
  | .rrc_H => [0xCB, 0x0C]
  | .rrc_L => [0xCB, 0x0D]
  | .rrc_mHL => [0xCB, 0x0E]
  | .rrc_A => [0xCB, 0x0F]
  | .rl_B => [0xCB, 0x10]
  | .rl_C => [0xCB, 0x11]
  | .rl_D => [0xCB, 0x12]
  | .rl_E => [0xCB, 0x13]
  | .rl_H => [0xCB, 0x14]
  | .rl_L => [0xCB, 0x15]
  | .rl_mHL => [0xCB, 0x16]
  | .rl_A => [0xCB, 0x17]
  | .rr_B => [0xCB, 0x18]
  | .rr_C => [0xCB, 0x19]
  | .rr_D => [0xCB, 0x1A]
  | .rr_E => [0xCB, 0x1B]
  | .rr_H => [0xCB, 0x1C]
  | .rr_L => [0xCB, 0x1D]
  | .rr_mHL => [0xCB, 0x1E]
  | .rr_A => [0xCB, 0x1F]
  | .sla_B => [0xCB, 0x20]
  | .sla_C => [0xCB, 0x21]
  | .sla_D => [0xCB, 0x22]
  | .sla_E => [0xCB, 0x23]
  | .sla_H => [0xCB, 0x24]
  | .sla_L => [0xCB, 0x25]
  | .sla_mHL => [0xCB, 0x26]
  | .sla_A => [0xCB, 0x27]
  | .sra_B => [0xCB, 0x28]
  | .sra_C => [0xCB, 0x29]
  | .sra_D => [0xCB, 0x2A]
  | .sra_E => [0xCB, 0x2B]
  | .sra_H => [0xCB, 0x2C]
  | .sra_L => [0xCB, 0x2D]
  | .sra_mHL => [0xCB, 0x2E]
  | .sra_A => [0xCB, 0x2F]
  | .swap_B => [0xCB, 0x30]
  | .swap_C => [0xCB, 0x31]
  | .swap_D => [0xCB, 0x32]
  | .swap_E => [0xCB, 0x33]
  | .swap_H => [0xCB, 0x34]
  | .swap_L => [0xCB, 0x35]
  | .swap_mHL => [0xCB, 0x36]
  | .swap_A => [0xCB, 0x37]
  | .srl_B => [0xCB, 0x38]
  | .srl_C => [0xCB, 0x39]
  | .srl_D => [0xCB, 0x3A]
  | .srl_E => [0xCB, 0x3B]
  | .srl_H => [0xCB, 0x3C]
  | .srl_L => [0xCB, 0x3D]
  | .srl_mHL => [0xCB, 0x3E]
  | .srl_A => [0xCB, 0x3F]
  | .bit_0_B => [0xCB, 0x40]
  | .bit_0_C => [0xCB, 0x41]
  | .bit_0_D => [0xCB, 0x42]
  | .bit_0_E => [0xCB, 0x43]
  | .bit_0_H => [0xCB, 0x44]
  | .bit_0_L => [0xCB, 0x45]
  | .bit_0_mHL => [0xCB, 0x46]
  | .bit_0_A => [0xCB, 0x47]
  | .bit_1_B => [0xCB, 0x48]
  | .bit_1_C => [0xCB, 0x49]
  | .bit_1_D => [0xCB, 0x4A]
  | .bit_1_E => [0xCB, 0x4B]
  | .bit_1_H => [0xCB, 0x4C]
  | .bit_1_L => [0xCB, 0x4D]
  | .bit_1_mHL => [0xCB, 0x4E]
  | .bit_1_A => [0xCB, 0x4F]
  | .bit_2_B => [0xCB, 0x50]
  | .bit_2_C => [0xCB, 0x51]
  | .bit_2_D => [0xCB, 0x52]
  | .bit_2_E => [0xCB, 0x53]
  | .bit_2_H => [0xCB, 0x54]
  | .bit_2_L => [0xCB, 0x55]
  | .bit_2_mHL => [0xCB, 0x56]
  | .bit_2_A => [0xCB, 0x57]
  | .bit_3_B => [0xCB, 0x58]
  | .bit_3_C => [0xCB, 0x59]
  | .bit_3_D => [0xCB, 0x5A]
  | .bit_3_E => [0xCB, 0x5B]
  | .bit_3_H => [0xCB, 0x5C]
  | .bit_3_L => [0xCB, 0x5D]
  | .bit_3_mHL => [0xCB, 0x5E]
  | .bit_3_A => [0xCB, 0x5F]
  | .bit_4_B => [0xCB, 0x60]
  | .bit_4_C => [0xCB, 0x61]
  | .bit_4_D => [0xCB, 0x62]
  | .bit_4_E => [0xCB, 0x63]
  | .bit_4_H => [0xCB, 0x64]
  | .bit_4_L => [0xCB, 0x65]
  | .bit_4_mHL => [0xCB, 0x66]
  | .bit_4_A => [0xCB, 0x67]
  | .bit_5_B => [0xCB, 0x68]
  | .bit_5_C => [0xCB, 0x69]
  | .bit_5_D => [0xCB, 0x6A]
  | .bit_5_E => [0xCB, 0x6B]
  | .bit_5_H => [0xCB, 0x6C]
  | .bit_5_L => [0xCB, 0x6D]
  | .bit_5_mHL => [0xCB, 0x6E]
  | .bit_5_A => [0xCB, 0x6F]
  | .bit_6_B => [0xCB, 0x70]
  | .bit_6_C => [0xCB, 0x71]
  | .bit_6_D => [0xCB, 0x72]
  | .bit_6_E => [0xCB, 0x73]
  | .bit_6_H => [0xCB, 0x74]
  | .bit_6_L => [0xCB, 0x75]
  | .bit_6_mHL => [0xCB, 0x76]
  | .bit_6_A => [0xCB, 0x77]
  | .bit_7_B => [0xCB, 0x78]
  | .bit_7_C => [0xCB, 0x79]
  | .bit_7_D => [0xCB, 0x7A]
  | .bit_7_E => [0xCB, 0x7B]
  | .bit_7_H => [0xCB, 0x7C]
  | .bit_7_L => [0xCB, 0x7D]
  | .bit_7_mHL => [0xCB, 0x7E]
  | .bit_7_A => [0xCB, 0x7F]
  | .res_0_B => [0xCB, 0x80]
  | .res_0_C => [0xCB, 0x81]
  | .res_0_D => [0xCB, 0x82]
  | .res_0_E => [0xCB, 0x83]
  | .res_0_H => [0xCB, 0x84]
  | .res_0_L => [0xCB, 0x85]
  | .res_0_mHL => [0xCB, 0x86]
  | .res_0_A => [0xCB, 0x87]
  | .res_1_B => [0xCB, 0x88]
  | .res_1_C => [0xCB, 0x89]
  | .res_1_D => [0xCB, 0x8A]
  | .res_1_E => [0xCB, 0x8B]
  | .res_1_H => [0xCB, 0x8C]
  | .res_1_L => [0xCB, 0x8D]
  | .res_1_mHL => [0xCB, 0x8E]
  | .res_1_A => [0xCB, 0x8F]
  | .res_2_B => [0xCB, 0x90]
  | .res_2_C => [0xCB, 0x91]
  | .res_2_D => [0xCB, 0x92]
  | .res_2_E => [0xCB, 0x93]
  | .res_2_H => [0xCB, 0x94]
  | .res_2_L => [0xCB, 0x95]
  | .res_2_mHL => [0xCB, 0x96]
  | .res_2_A => [0xCB, 0x97]
  | .res_3_B => [0xCB, 0x98]
  | .res_3_C => [0xCB, 0x99]
  | .res_3_D => [0xCB, 0x9A]
  | .res_3_E => [0xCB, 0x9B]
  | .res_3_H => [0xCB, 0x9C]
  | .res_3_L => [0xCB, 0x9D]
  | .res_3_mHL => [0xCB, 0x9E]
  | .res_3_A => [0xCB, 0x9F]
  | .res_4_B => [0xCB, 0xA0]
  | .res_4_C => [0xCB, 0xA1]
  | .res_4_D => [0xCB, 0xA2]
  | .res_4_E => [0xCB, 0xA3]
  | .res_4_H => [0xCB, 0xA4]
  | .res_4_L => [0xCB, 0xA5]
  | .res_4_mHL => [0xCB, 0xA6]
  | .res_4_A => [0xCB, 0xA7]
  | .res_5_B => [0xCB, 0xA8]
  | .res_5_C => [0xCB, 0xA9]
  | .res_5_D => [0xCB, 0xAA]
  | .res_5_E => [0xCB, 0xAB]
  | .res_5_H => [0xCB, 0xAC]
  | .res_5_L => [0xCB, 0xAD]
  | .res_5_mHL => [0xCB, 0xAE]
  | .res_5_A => [0xCB, 0xAF]
  | .res_6_B => [0xCB, 0xB0]
  | .res_6_C => [0xCB, 0xB1]
  | .res_6_D => [0xCB, 0xB2]
  | .res_6_E => [0xCB, 0xB3]
  | .res_6_H => [0xCB, 0xB4]
  | .res_6_L => [0xCB, 0xB5]
  | .res_6_mHL => [0xCB, 0xB6]
  | .res_6_A => [0xCB, 0xB7]
  | .res_7_B => [0xCB, 0xB8]
  | .res_7_C => [0xCB, 0xB9]
  | .res_7_D => [0xCB, 0xBA]
  | .res_7_E => [0xCB, 0xBB]
  | .res_7_H => [0xCB, 0xBC]
  | .res_7_L => [0xCB, 0xBD]
  | .res_7_mHL => [0xCB, 0xBE]
  | .res_7_A => [0xCB, 0xBF]
  | .set_0_B => [0xCB, 0xC0]
  | .set_0_C => [0xCB, 0xC1]
  | .set_0_D => [0xCB, 0xC2]
  | .set_0_E => [0xCB, 0xC3]
  | .set_0_H => [0xCB, 0xC4]
  | .set_0_L => [0xCB, 0xC5]
  | .set_0_mHL => [0xCB, 0xC6]
  | .set_0_A => [0xCB, 0xC7]
  | .set_1_B => [0xCB, 0xC8]
  | .set_1_C => [0xCB, 0xC9]
  | .set_1_D => [0xCB, 0xCA]
  | .set_1_E => [0xCB, 0xCB]
  | .set_1_H => [0xCB, 0xCC]
  | .set_1_L => [0xCB, 0xCD]
  | .set_1_mHL => [0xCB, 0xCE]
  | .set_1_A => [0xCB, 0xCF]
  | .set_2_B => [0xCB, 0xD0]
  | .set_2_C => [0xCB, 0xD1]
  | .set_2_D => [0xCB, 0xD2]
  | .set_2_E => [0xCB, 0xD3]
  | .set_2_H => [0xCB, 0xD4]
  | .set_2_L => [0xCB, 0xD5]
  | .set_2_mHL => [0xCB, 0xD6]
  | .set_2_A => [0xCB, 0xD7]
  | .set_3_B => [0xCB, 0xD8]
  | .set_3_C => [0xCB, 0xD9]
  | .set_3_D => [0xCB, 0xDA]
  | .set_3_E => [0xCB, 0xDB]
  | .set_3_H => [0xCB, 0xDC]
  | .set_3_L => [0xCB, 0xDD]
  | .set_3_mHL => [0xCB, 0xDE]
  | .set_3_A => [0xCB, 0xDF]
  | .set_4_B => [0xCB, 0xE0]
  | .set_4_C => [0xCB, 0xE1]
  | .set_4_D => [0xCB, 0xE2]
  | .set_4_E => [0xCB, 0xE3]
  | .set_4_H => [0xCB, 0xE4]
  | .set_4_L => [0xCB, 0xE5]
  | .set_4_mHL => [0xCB, 0xE6]
  | .set_4_A => [0xCB, 0xE7]
  | .set_5_B => [0xCB, 0xE8]
  | .set_5_C => [0xCB, 0xE9]
  | .set_5_D => [0xCB, 0xEA]
  | .set_5_E => [0xCB, 0xEB]
  | .set_5_H => [0xCB, 0xEC]
  | .set_5_L => [0xCB, 0xED]
  | .set_5_mHL => [0xCB, 0xEE]
  | .set_5_A => [0xCB, 0xEF]
  | .set_6_B => [0xCB, 0xF0]
  | .set_6_C => [0xCB, 0xF1]
  | .set_6_D => [0xCB, 0xF2]
  | .set_6_E => [0xCB, 0xF3]
  | .set_6_H => [0xCB, 0xF4]
  | .set_6_L => [0xCB, 0xF5]
  | .set_6_mHL => [0xCB, 0xF6]
  | .set_6_A => [0xCB, 0xF7]
  | .set_7_B => [0xCB, 0xF8]
  | .set_7_C => [0xCB, 0xF9]
  | .set_7_D => [0xCB, 0xFA]
  | .set_7_E => [0xCB, 0xFB]
  | .set_7_H => [0xCB, 0xFC]
  | .set_7_L => [0xCB, 0xFD]
  | .set_7_mHL => [0xCB, 0xFE]
  | .set_7_A => [0xCB, 0xFF]

/-- The instruction the decoder reads from the bits of `w`, numbered as spec/opcode_table.json numbers them: byte 0 of the
instruction is bits 7 to 0, byte 1 bits 15 to 8, byte 2 bits 23 to 16; bits at `nbits` and above are 0. -/
def decodeTableWord (nbits w : Nat) : Option Instr :=
  let v := w % 2 ^ nbits
  some (decode3 (BitVec.ofNat 8 v) (BitVec.ofNat 8 (v / 2 ^ 8)) (BitVec.ofNat 8 (v / 2 ^ 16)))

end Sys2Proof
end

