-- ==== Sys2Proof/Config.lean ====
section
/-!
DEFINITION. What one implementation or one host fixes: the free values of the spec (opaque, nothing in Lean can evaluate
them) and the construction parameters that spec/00_scope.md R5 leaves open. The parameters with a value in R5 are
numerals of the `Machine` files.
-/
namespace Sys2Proof

namespace Config

/-- FREE VALUE (log entry 4). By how many microseconds the host's clock has moved on between its reads number `k - 1` and
`k`: spec/00_scope.md R15, "a model takes each read as a draw constrained to be monotonic". -/
opaque nowDelta : Nat → Nat

/-- FREE VALUE (log entry 5). `SAMPLE_PERIOD - 1`: spec/63_apu.md R690, "a positive integer the source does not give". -/
opaque samplePeriodPred : Nat

end Config

/-- The reset profile `BOOT` (spec/10_state.md R70). -/
inductive BootProfile where
  | overlay | skip
  deriving DecidableEq, Repr

/-- The five clock registers of the RTC-capable cartridge (spec/61_cartridge.md R508). -/
inductive RtcField where
  | seconds | minutes | hours | dayLow | dayHigh
  deriving DecidableEq, Repr

/-- What one byte of the serialized clock block holds (spec/61_cartridge.md R542). The default has five `live` bytes; a wider
entry is a `live` byte beside `fill` bytes. -/
inductive RtcSaveByte where
  /-- A live clock register as stored. -/
  | live (f : RtcField)
  /-- Padding: a fixed byte. -/
  | fill (v : Byte)
  /-- Byte `k`, the least significant being byte 0, of the time of the save in units of `micros` microseconds. -/
  | stamp (micros k : Nat)
  deriving DecidableEq, Repr

/-- The open construction parameters of spec/70_reset_and_hazards.md R700 that stay with the machine. -/
structure Params where
  /-- `BOOT`. -/
  boot : BootProfile
  /-- `SAMPLE_PERIOD - 1`, so that the period is positive by construction (R690). -/
  samplePeriodPred : Nat
  /-- `AUDIO_MAX` (R685). -/
  audioMax : Nat
  /-- `LENGTH_PHASES` (R661, conflict C1). -/
  lengthPhases : List (BitVec 3)
  /-- `RTC_SAVE_LAYOUT`: what each byte of the serialized block holds, in order; its length is `K` (R542; log entry 13). -/
  rtcSaveLayout : List RtcSaveByte
  deriving DecidableEq, Repr

/-- The defaults of R5: `overlay`, 480, {0, 2, 4, 6}, the five registers in order; `SAMPLE_PERIOD` is free. -/
def Params.default : Params where
  boot := .overlay
  samplePeriodPred := Config.samplePeriodPred
  audioMax := 480
  lengthPhases := [0, 2, 4, 6]
  rtcSaveLayout := [.live .seconds, .live .minutes, .live .hours, .live .dayLow, .live .dayHigh]

end Sys2Proof
end

