-- ==== Sys2Proof/Machine/State.lean ====
section
/-!
DEFINITION. Every piece of state spec/10_state.md R20 to R55 gives the block, as plain data, and its value after reset
(R70 to R76). Counters the spec bounds but never adds to a word are `Nat`; stored bit fields are `BitVec`s of their width;
single flags are `Bool`. The invariants that bound the counters are in `Safety.lean`.
-/
namespace Sys2Proof.Machine

open Sys2Proof

/-- A storage array: the cells that differ from the blank byte, in rising address order (`Machine/Memory.lean`). -/
abbrev Memory := List Host.Cell

/-- The four flags, bits 7 to 4 of `F`; bits 3 to 0 are hardwired to zero and have no storage (R24, R25). -/
structure Flags where
  zf : Bool
  nf : Bool
  hf : Bool
  cf : Bool
  deriving DecidableEq, Repr

/-- The register file (R20 to R23). -/
structure Regs where
  a : Byte
  f : Flags
  b : Byte
  c : Byte
  d : Byte
  e : Byte
  h : Byte
  l : Byte
  sp : Word
  pc : Word
  deriving DecidableEq, Repr

/-- The interval timer (R53, spec/60_exceptions.md R450). -/
structure Timer where
  /-- `sysclk`, the free-running counter whose top byte is `DIV`. -/
  sysclk : BitVec 16
  /-- `tsub`, cycles counted towards the next `TIMA` tick. -/
  tsub : Nat
  tima : Byte
  tma : Byte
  /-- `TAC[2:0]`. -/
  tac : BitVec 3
  /-- `overflow_pending`. -/
  overflowPending : Bool
  deriving DecidableEq, Repr

/-- The eight buttons (spec/00_scope.md R17). -/
inductive Button where
  | right | left | up | down | aBtn | bBtn | select | start
  deriving DecidableEq, Repr

/-- The input register (R54, spec/60_exceptions.md R460): the two select bits and which buttons are pressed. -/
structure Input where
  sel : BitVec 2
  right : Bool
  left : Bool
  up : Bool
  down : Bool
  aBtn : Bool
  bBtn : Bool
  select : Bool
  start : Bool
  deriving DecidableEq, Repr

/-- The serial stub (R54, spec/60_exceptions.md R468): `SB` and the two stored bits of `SC`. -/
structure Serial where
  sb : Byte
  sc7 : Bool
  sc0 : Bool
  deriving DecidableEq, Repr

/-- `CART_KIND` (spec/61_cartridge.md R500). -/
inductive CartKind where
  | romOnly | mbc3Rtc
  deriving DecidableEq, Repr

/-- One set of clock registers (spec/61_cartridge.md R508). `rtc.dh` is `carry :: halt :: 00000 :: day8`. -/
structure Rtc where
  s : BitVec 6
  m : BitVec 6
  h : BitVec 5
  dl : Byte
  day8 : Bool
  halt : Bool
  carry : Bool
  deriving DecidableEq, Repr

/-- The cartridge: the constant image and its header-derived sizes, and the controller's state (R50,
spec/61_cartridge.md R500 to R502). -/
structure Cart where
  kind : CartKind
  /-- The image `Rom(i)`; read-only (spec/00_scope.md R13). -/
  rom : Memory
  romSize : Nat
  romBanks : Nat
  ramBanks : Nat
  ramEnable : Bool
  romBank : BitVec 7
  ramSel : BitVec 4
  latchPrev : Byte
  /-- `bank_mode`: "stored by no rule and read by no rule" (R50, R515). -/
  bankMode : Bool
  /-- The live clock. -/
  rtc : Rtc
  /-- The latched copy. -/
  lat : Rtc
  /-- `rtc_anchor`, microseconds of the `NowUs` clock. -/
  rtcAnchor : Nat
  /-- `cart_ram`. -/
  ram : Memory
  deriving DecidableEq, Repr

/-- The mode of the pixel processor (spec/62_ppu.md R552). -/
inductive PpuMode where
  | hBlank | vBlank | oamScan | transfer
  deriving DecidableEq, Repr

/-- One sprite descriptor (spec/62_ppu.md R591). -/
structure Sprite where
  y : Byte
  x : Byte
  tile : Byte
  attr : Byte
  deriving DecidableEq, Repr

/-- The pixel processor (R51, spec/62_ppu.md R551 to R553). -/
structure Ppu where
  lcdc : Byte
  /-- `stat_en[3:0]`. -/
  statEn : BitVec 4
  scy : Byte
  scx : Byte
  ly : Byte
  lyc : Byte
  bgp : Byte
  obp0 : Byte
  obp1 : Byte
  wy : Byte
  wx : Byte
  mode : PpuMode
  modeClock : Nat
  winLine : Nat
  /-- `sprites[0..39]`, the snapshot. -/
  sprites : List Sprite
  /-- `bg_idx[0..159]`. -/
  bgIdx : List (BitVec 2)
  /-- `obj_drawn[0..159]`. -/
  objDrawn : List Bool
  /-- `fb[0..143][0..159]`. -/
  fb : List (List (BitVec 2))
  statLevel : Bool
  deriving DecidableEq, Repr

/-- The state every audio channel has (spec/63_apu.md R622). -/
structure Chan where
  enabled : Bool
  dac : Bool
  len : Nat
  lenEn : Bool
  ftimer : Nat
  deriving DecidableEq, Repr

/-- The envelope of channels 1, 2 and 4 (R623). -/
structure Env where
  init : BitVec 4
  /-- 1 = increasing. -/
  dir : Bool
  period : BitVec 3
  timer : BitVec 3
  active : Bool
  vol : BitVec 4
  deriving DecidableEq, Repr

/-- A pulse channel, 1 or 2 (R624). -/
structure Pulse where
  ch : Chan
  env : Env
  duty : BitVec 2
  dutyPos : BitVec 3
  freq : BitVec 11
  deriving DecidableEq, Repr

/-- The frequency sweep of channel 1 (R624). -/
structure Sweep where
  pace : BitVec 3
  /-- 1 = decreasing. -/
  dir : Bool
  step : BitVec 3
  shadow : BitVec 11
  timer : Nat
  enable : Bool
  deriving DecidableEq, Repr

/-- Channel 3 (R625). -/
structure WaveCh where
  ch : Chan
  freq : BitVec 11
  level : BitVec 2
  pos : BitVec 5
  deriving DecidableEq, Repr

/-- Channel 4 (R625). -/
structure Noise where
  ch : Chan
  env : Env
  lfsr : BitVec 15
  clkShift : BitVec 4
  divCode : BitVec 3
  /-- 1 = 7-bit mode. -/
  width : Bool
  deriving DecidableEq, Repr

/-- The audio processor (R52, spec/63_apu.md R621 to R625). -/
structure Apu where
  on : Bool
  seqClock : Nat
  seqPhase : BitVec 3
  nr50 : Byte
  nr51 : Byte
  sampleClock : Nat
  /-- `wave[0..15]`. -/
  wave : Memory
  ch1 : Pulse
  sweep : Sweep
  ch2 : Pulse
  ch3 : WaveCh
  ch4 : Noise
  deriving DecidableEq, Repr

/-- A call the host makes on an input port between two steps (spec/00_scope.md R17, R18). -/
inductive HostCall where
  | press (b : Button)
  | release (b : Button)
  | saveRequest
  deriving DecidableEq, Repr

/-- The host's side of the ports (spec/00_scope.md R13 to R19): what is still to come in, and what the last step put out.
The MODEL's own record of the ports, not state of the block (log entries 4, 6, 7). -/
structure HostPorts where
  /-- The last value read from `NowUs`. -/
  now : Nat
  /-- How many times `NowUs` has been read: the index of the next free draw. -/
  nowReads : Nat
  /-- How many steps have begun: the step index of R463. -/
  stepIndex : Nat
  /-- The calls still to come, each before the step of its index: R463's "list of (step index, press or release, button)
  events supplied from outside", with the save requests of R18. -/
  calls : List (Nat × HostCall)
  /-- What the `Save` port holds. -/
  save : Memory
  saveSize : Nat
  /-- `FrameReady` was raised by the last step. -/
  frameReady : Bool
  /-- The `AudioSample` calls of the last step, oldest first. -/
  samples : List (Nat × Nat)
  deriving DecidableEq, Repr

/-- The whole machine. -/
structure State where
  regs : Regs
  /-- `IME` (R30). -/
  ime : Bool
  /-- `IE`, all eight bits (R31). -/
  ie : Byte
  /-- `IF[4:0]` (R32). -/
  iflag : BitVec 5
  /-- The wait-state flag (R36). -/
  halted : Bool
  /-- The one-shot "skip next PC increment" flag (R38). -/
  haltBug : Bool
  /-- `ei_pending` (R39). -/
  eiPending : Bool
  /-- `dma_stall`, cycles (R40). -/
  dmaStall : Nat
  /-- `fault`: none, or the address and the byte of the unmapped opcode (R41). -/
  fault : Option (Word × Byte)
  /-- MODEL's own: the cycle count the last step or instruction returned (spec/00_scope.md R11, log entry 7). -/
  cost : Nat
  /-- `boot_mapped` (R44). -/
  bootMapped : Bool
  /-- `BOOT_IMAGE`, read-only (R44). -/
  bootImage : Memory
  vram : Memory
  wram : Memory
  oam : Memory
  hram : Memory
  /-- The DMA register, the last value written to 0xFF46 (spec/20_memory.md R120). -/
  dmaReg : Byte
  timer : Timer
  input : Input
  serial : Serial
  cart : Cart
  ppu : Ppu
  apu : Apu
  par : Params
  host : HostPorts
  deriving DecidableEq, Repr

/-- What a step can stop with. -/
inductive Fault where
  /-- Raised by the meanings of the eleven `ILLEGAL` rows and so by the `step` that fetches an unmapped byte, and by every
  later `step` (spec/60_exceptions.md R410): `Fault(pc, op)`, with the state `after` the step, whose `fault` field is set;
  the host may call its ports and step again from it. Safe: the spec's own outcome. -/
  | decodeFault (pc : Word) (op : Byte) (after : State)
  deriving DecidableEq, Repr

/-- What the model declines. -/
inductive Refusal where
  /-- Raised by nothing: every constructor of `Instr` has its meaning. Kept because the host's interface names it. Safe. -/
  | notModelled (mnemonic : String)
  deriving DecidableEq, Repr

/-- The outcome of an instruction or a step. -/
abbrev Result := Host.Outcome State Fault Refusal

/-- All clock registers 0 (R76). -/
def Rtc.zero : Rtc where
  s := 0
  m := 0
  h := 0
  dl := 0
  day8 := false
  halt := false
  carry := false

/-- A channel with every field 0 (R75, and R680). -/
def Chan.zero : Chan where
  enabled := false
  dac := false
  len := 0
  lenEn := false
  ftimer := 0

/-- An envelope with every field 0 (R75, and R680). -/
def Env.zero : Env where
  init := 0
  dir := false
  period := 0
  timer := 0
  active := false
  vol := 0

/-- A pulse channel with every field 0. -/
def Pulse.zero : Pulse where
  ch := .zero
  env := .zero
  duty := 0
  dutyPos := 0
  freq := 0

/-- A sweep unit with every field 0. -/
def Sweep.zero : Sweep where
  pace := 0
  dir := false
  step := 0
  shadow := 0
  timer := 0
  enable := false

/-- The wave channel with every field 0. -/
def WaveCh.zero : WaveCh where
  ch := .zero
  freq := 0
  level := 0
  pos := 0

/-- The noise channel with every field 0. -/
def Noise.zero : Noise where
  ch := .zero
  env := .zero
  lfsr := 0
  clkShift := 0
  divCode := 0
  width := false

/-- The machine right after construction with the default profile `overlay` (R70 to R76, `ov` column), an absent cartridge
image, an absent boot image and no save data (log entries 2 and 3). -/
def State.reset : State where
  regs :=
    { a := 0, f := { zf := false, nf := false, hf := false, cf := false }, b := 0, c := 0, d := 0, e := 0, h := 0, l := 0,
      sp := 0x0000, pc := 0x0000 }
  ime := false
  ie := 0x00
  iflag := 0
  halted := false
  haltBug := false
  eiPending := false
  dmaStall := 0
  fault := none
  cost := 0
  bootMapped := true
  bootImage := []
  vram := []
  wram := []
  oam := []
  hram := []
  dmaReg := 0xFF
  timer := { sysclk := 0, tsub := 0, tima := 0, tma := 0, tac := 0, overflowPending := false }
  input :=
    { sel := 0, right := false, left := false, up := false, down := false, aBtn := false, bBtn := false, select := false,
      start := false }
  serial := { sb := 0, sc7 := false, sc0 := false }
  cart :=
    { kind := .romOnly, rom := [], romSize := 0, romBanks := 2, ramBanks := 0, ramEnable := false, romBank := 1, ramSel := 0,
      latchPrev := 0xFF, bankMode := false, rtc := .zero, lat := .zero, rtcAnchor := 0, ram := [] }
  ppu :=
    { lcdc := 0x00, statEn := 0, scy := 0, scx := 0, ly := 0, lyc := 0, bgp := 0xFC, obp0 := 0xFF, obp1 := 0xFF, wy := 0,
      wx := 0, mode := .hBlank, modeClock := 0, winLine := 0,
      sprites := List.replicate 40 { y := 0, x := 0, tile := 0, attr := 0 },
      bgIdx := List.replicate 160 0, objDrawn := List.replicate 160 false,
      fb := List.replicate 144 (List.replicate 160 0), statLevel := false }
  apu :=
    { on := false, seqClock := 0, seqPhase := 0, nr50 := 0x00, nr51 := 0x00,
      sampleClock := Params.default.samplePeriodPred + 1, wave := [], ch1 := .zero, sweep := .zero, ch2 := .zero,
      ch3 := .zero, ch4 := .zero }
  par := Params.default
  host :=
    { now := 0, nowReads := 0, stepIndex := 0, calls := [], save := [], saveSize := 0, frameReady := false, samples := [] }

end Sys2Proof.Machine
end

