-- ==== Sys2Proof/Machine/Memory.lean ====
section
/-!
DEFINITION. The one representation of a storage array: a list of (index, byte) in canonical form, indices strictly rising
and no entry equal to what an unlisted index reads as. Which addresses reach which array is `Machine/Bus.lean`.
-/
namespace Sys2Proof.Machine

/-- What an unlisted cell reads as: 0x00, the reset content of every array (spec/10_state.md R72; log entry 1). -/
def Memory.blank : Byte := 0x00

/-- The byte at index `a`. -/
def Memory.read : Memory → Nat → Byte
  | [], _ => Memory.blank
  | (k, v) :: m, a => if a = k then v else Memory.read m a

/-- Store `v` at index `a`, keeping the canonical form: storing the blank byte removes the entry. -/
def Memory.write : Memory → Nat → Byte → Memory
  | [], a, v => if v = Memory.blank then [] else [(a, v)]
  | (k, w) :: m, a, v =>
    if a < k then
      if v = Memory.blank then (k, w) :: m else (a, v) :: (k, w) :: m
    else if a = k then
      if v = Memory.blank then m else (a, v) :: m
    else
      (k, w) :: Memory.write m a v

/-- The canonical form. -/
abbrev Memory.wf (m : Memory) : Prop :=
  m.Pairwise (fun x y => x.1 < y.1) ∧ ∀ c ∈ m, c.2 ≠ Memory.blank

/-- Every listed index is below `n`: the array has `n` cells. -/
abbrev Memory.below (m : Memory) (n : Nat) : Prop := ∀ c ∈ m, c.1 < n

/-- Store bytes at successive indices from `a`. -/
def Memory.writeAll (m : Memory) (a : Nat) : List Byte → Memory
  | [] => m
  | v :: vs => Memory.writeAll (m.write a v) (a + 1) vs

/-- The array whose first cells hold `bs`. -/
def Memory.ofBytes (bs : List Byte) : Memory := Memory.writeAll [] 0 bs

end Sys2Proof.Machine
end

