-- ==== Sys2Proof/Machine/Apu.lean ====
section
/-!
DEFINITION. The audio processor: channels, frame sequencer, trigger, master enable, mixer, output port (spec/63_apu.md R620
to R690). Channel behaviour is given by pure functions of the channel; `State.apuAdvance` runs the batch cycle by cycle.
-/
namespace Sys2Proof.Machine

/-! ### Derived notions and periods -/

/-- `active[c] = enabled[c] and dac[c]` (R626). -/
def Chan.audible (c : Chan) : Bool := c.enabled && c.dac

/-- `Period(c)` of a pulse channel (R675). -/
def pulsePeriod (freq : BitVec 11) : Nat := (2048 - freq.toNat) * 4

/-- `Period(3)` (R676). -/
def wavePeriod (freq : BitVec 11) : Nat := (2048 - freq.toNat) * 2

/-- `DIVISOR` (R677). -/
def noiseDivisor (code : BitVec 3) : Nat :=
  if code = 0 then 8 else 16 * code.toNat

/-- `Period(4)` (R677). -/
def Noise.period (n : Noise) : Nat := noiseDivisor n.divCode <<< n.clkShift.toNat

/-! ### The clocked units (R662 to R665) -/

/-- `LengthTick(c)` (R662). -/
def Chan.lengthTick (c : Chan) : Chan :=
  if c.lenEn && decide (c.len > 0) then
    { c with len := c.len - 1, enabled := c.enabled && decide (c.len - 1 ≠ 0) }
  else c

/-- The volume step of an envelope whose timer has run out (R663). -/
def Env.stepVolume (e : Env) : Env :=
  if e.active then
    if e.dir ∧ e.vol ≠ 15 then { e with vol := e.vol + 1 }
    else if ¬ e.dir ∧ e.vol ≠ 0 then { e with vol := e.vol - 1 }
    else { e with active := false }
  else e

/-- `EnvelopeTick(c)` (R663). -/
def Env.tick (e : Env) : Env :=
  if e.period = 0 then e
  else
    let t := if e.timer = 0 then e.timer else e.timer - 1
    if t = 0 then { e with timer := e.period }.stepVolume else { e with timer := t }

/-- `SweepCalc()` (R665). -/
def Sweep.calc (w : Sweep) : Nat :=
  let d := w.shadow.toNat >>> w.step.toNat
  if w.dir then w.shadow.toNat - d else w.shadow.toNat + d

/-- The sweep timer's reload value (R664, R670). -/
def Sweep.reload (w : Sweep) : Nat := if w.pace = 0 then 8 else w.pace.toNat

/-- What a sweep calculation does to channel 1 (R664): overflow disables it; a non-zero step writes the new frequency back
and checks once more. -/
def sweepApply (w : Sweep) (p : Pulse) : Sweep × Pulse :=
  if w.calc > 2047 then (w, { p with ch := { p.ch with enabled := false } })
  else if w.step ≠ 0 then
    let w' := { w with shadow := BitVec.ofNat 11 w.calc }
    (w', { p with
      freq := BitVec.ofNat 11 w.calc
      ch := { p.ch with enabled := p.ch.enabled && decide (w'.calc ≤ 2047) } })
  else (w, p)

/-- `SweepTick()` (R664). -/
def sweepTick (w : Sweep) (p : Pulse) : Sweep × Pulse :=
  if w.timer - 1 = 0 then
    let w' := { w with timer := w.reload }
    if w.enable && decide (w.pace ≠ 0) then sweepApply w' p else (w', p)
  else ({ w with timer := w.timer - 1 }, p)

/-! ### The channels' own cycles (R675 to R677) -/

/-- `PulseCycle(c)` (R675). -/
def Pulse.cycle (p : Pulse) : Pulse :=
  if p.ch.ftimer - 1 = 0 then
    { p with ch := { p.ch with ftimer := pulsePeriod p.freq }, dutyPos := p.dutyPos + 1 }
  else { p with ch := { p.ch with ftimer := p.ch.ftimer - 1 } }

/-- `WaveCycle()` (R676). -/
def WaveCh.cycle (w : WaveCh) : WaveCh :=
  if w.ch.ftimer - 1 = 0 then
    { w with ch := { w.ch with ftimer := wavePeriod w.freq }, pos := w.pos + 1 }
  else { w with ch := { w.ch with ftimer := w.ch.ftimer - 1 } }

/-- One shift of the noise register (R677). -/
def lfsrNext (v : BitVec 15) (width : Bool) : BitVec 15 :=
  let x : BitVec 15 := BitVec.setWidth 15 (BitVec.ofBool (v.getLsbD 0 ^^ v.getLsbD 1))
  let w := (v >>> 1) ||| (x <<< 14)
  if width then (w &&& ~~~(0x0040 : BitVec 15)) ||| (x <<< 6) else w

/-- `NoiseCycle()` (R677). -/
def Noise.cycle (n : Noise) : Noise :=
  if n.ch.ftimer - 1 = 0 then
    { n with ch := { n.ch with ftimer := n.period }, lfsr := lfsrNext n.lfsr n.width }
  else { n with ch := { n.ch with ftimer := n.ch.ftimer - 1 } }

/-! ### Outputs and mixer (R678, R685) -/

/-- `DUTY[duty]`, positions 0 to 7 (R678). -/
def dutyRow (duty : BitVec 2) : List Bool :=
  if duty = 0 then [false, false, false, false, false, false, false, true]
  else if duty = 1 then [true, false, false, false, false, false, false, true]
  else if duty = 2 then [true, false, false, false, false, true, true, true]
  else [false, true, true, true, true, true, true, false]

/-- `Output(1)`, `Output(2)` (R678). -/
def Pulse.output (p : Pulse) : Nat :=
  if (dutyRow p.duty).getD p.dutyPos.toNat false then p.env.vol.toNat else 0

/-- Sample `k` of the wave table: high nibble first (R651). -/
def waveSample (wave : Memory) (k : BitVec 5) : BitVec 4 :=
  let b := wave.read (k.toNat / 2)
  if k.getLsbD 0 then b.extractLsb' 0 4 else b.extractLsb' 4 4

/-- The shift of the level selector (R641). -/
def levelShift (level : BitVec 2) : Nat :=
  if level = 0 then 4 else level.toNat - 1

/-- `Output(3)` (R678). -/
def WaveCh.output (w : WaveCh) (wave : Memory) : Nat :=
  (waveSample wave w.pos).toNat >>> levelShift w.level

/-- `Output(4)` (R678). -/
def Noise.output (n : Noise) : Nat := if n.lfsr.getLsbD 0 then 0 else n.env.vol.toNat

/-- The sum of the audible channels that the panning bits `b`, `b + 1`, `b + 2`, `b + 3` of `NR51` route to one side. -/
def Apu.bus (a : Apu) (b : Nat) : Nat :=
  (if a.ch1.ch.audible && a.nr51.getLsbD b then a.ch1.output else 0)
    + (if a.ch2.ch.audible && a.nr51.getLsbD (b + 1) then a.ch2.output else 0)
    + (if a.ch3.ch.audible && a.nr51.getLsbD (b + 2) then a.ch3.output a.wave else 0)
    + (if a.ch4.ch.audible && a.nr51.getLsbD (b + 3) then a.ch4.output else 0)

/-- `Mix()` (R685): left from panning bits 4 to 7 and `NR50[6:4]`, right from bits 0 to 3 and `NR50[2:0]`. -/
def Apu.mix (a : Apu) (audioMax : Nat) : Nat × Nat :=
  if a.on then
    (min (a.bus 4 * ((a.nr50.extractLsb' 4 3).toNat + 1)) audioMax,
      min (a.bus 0 * ((a.nr50.extractLsb' 0 3).toNat + 1)) audioMax)
  else (0, 0)

/-! ### Advance (R660, R661) -/

/-- `LengthTick(c)` for all four channels. -/
def Apu.lengthTicks (a : Apu) : Apu :=
  { a with
    ch1 := { a.ch1 with ch := a.ch1.ch.lengthTick }
    ch2 := { a.ch2 with ch := a.ch2.ch.lengthTick }
    ch3 := { a.ch3 with ch := a.ch3.ch.lengthTick }
    ch4 := { a.ch4 with ch := a.ch4.ch.lengthTick } }

/-- `SweepTick()` on channel 1. -/
def Apu.sweepTicks (a : Apu) : Apu :=
  { a with sweep := (sweepTick a.sweep a.ch1).1, ch1 := (sweepTick a.sweep a.ch1).2 }

/-- `EnvelopeTick(c)` for channels 1, 2 and 4. -/
def Apu.envelopeTicks (a : Apu) : Apu :=
  { a with
    ch1 := { a.ch1 with env := a.ch1.env.tick }
    ch2 := { a.ch2 with env := a.ch2.env.tick }
    ch4 := { a.ch4 with env := a.ch4.env.tick } }

/-- `FireSequencer(p)` (R661): length, then sweep, then envelope. -/
def Apu.fireSequencer (a : Apu) (lengthPhases : List (BitVec 3)) (p : BitVec 3) : Apu :=
  if a.on then
    let a1 := if lengthPhases.contains p then a.lengthTicks else a
    let a2 := if p = 2 ∨ p = 6 then a1.sweepTicks else a1
    if p = 7 then a2.envelopeTicks else a2
  else a

/-- The sequencer part of one cycle (R660, R661). -/
def Apu.sequencerCycle (a : Apu) (lengthPhases : List (BitVec 3)) : Apu :=
  if a.seqClock + 1 = 8192 then
    { a.fireSequencer lengthPhases a.seqPhase with seqClock := 0, seqPhase := a.seqPhase + 1 }
  else { a with seqClock := a.seqClock + 1 }

/-- The channel part of one cycle (R660). -/
def Apu.channelCycle (a : Apu) : Apu :=
  if a.on then
    { a with ch1 := a.ch1.cycle, ch2 := a.ch2.cycle, ch3 := a.ch3.cycle, ch4 := a.ch4.cycle }
  else a

/-- The channels and the sequencer over one cycle: `ApuCycle` without the output port. -/
def Apu.cycle (a : Apu) (lengthPhases : List (BitVec 3)) : Apu :=
  (a.sequencerCycle lengthPhases).channelCycle

/-- `ApuCycle` (R660): sequencer, channels, then the output down-counter and its sample (R690). -/
def State.apuCycle (s : State) : State :=
  let a := s.apu.cycle s.par.lengthPhases
  { s with
    apu := { a with sampleClock := if a.sampleClock - 1 = 0 then s.par.samplePeriodPred + 1 else a.sampleClock - 1 }
    host := { s.host with
      samples := if a.sampleClock - 1 = 0 then s.host.samples ++ [a.mix s.par.audioMax] else s.host.samples } }

/-- `ApuAdvance(n)` (R660). -/
def State.apuAdvance (s : State) : Nat → State
  | 0 => s
  | n + 1 => State.apuAdvance s.apuCycle n

/-! ### Trigger (R670) -/

/-- The part of `Trigger(c)` that every channel has: enabled, an expired length reloaded, the frequency timer reloaded. -/
def Chan.trigger (c : Chan) (maxLen period : Nat) : Chan :=
  { c with enabled := true, len := if c.len = 0 then maxLen else c.len, ftimer := period }

/-- The envelope part of `Trigger(c)`. -/
def Env.trigger (e : Env) : Env := { e with timer := e.period, vol := e.init, active := true }

/-- `Trigger(2)`, and `Trigger(1)` without its sweep. -/
def Pulse.trigger (p : Pulse) : Pulse :=
  { p with ch := p.ch.trigger 64 (pulsePeriod p.freq), env := p.env.trigger }

/-- The sweep part of `Trigger(1)`. -/
def Sweep.trigger (w : Sweep) (freq : BitVec 11) : Sweep :=
  { w with shadow := freq, timer := w.reload, enable := decide (w.pace ≠ 0) || decide (w.step ≠ 0) }

/-- `Trigger(1)`: the overflow check at once when the step is not 0. -/
def Apu.trigger1 (a : Apu) : Apu :=
  let w := a.sweep.trigger a.ch1.freq
  let p := a.ch1.trigger
  { a with
    sweep := w
    ch1 := { p with ch := { p.ch with enabled := !(decide (w.step ≠ 0) && decide (w.calc > 2047)) } } }

/-- `Trigger(3)`. -/
def WaveCh.trigger (w : WaveCh) : WaveCh :=
  { w with ch := w.ch.trigger 256 (wavePeriod w.freq), pos := 0 }

/-- `Trigger(4)`. -/
def Noise.trigger (n : Noise) : Noise :=
  { n with ch := n.ch.trigger 64 n.period, env := n.env.trigger, lfsr := 0x7FFF }

/-! ### Registers (R628 to R651) -/

/-- The audio registers with a field layout; the wave table is apart. -/
inductive NrReg where
  | nr10 | nr11 | nr12 | nr13 | nr14
  | nr21 | nr22 | nr23 | nr24
  | nr30 | nr31 | nr32 | nr33 | nr34
  | nr41 | nr42 | nr43 | nr44
  | nr50 | nr51 | nr52
  deriving DecidableEq, Repr

/-- `NRx2` as stored (R632). -/
def Env.readByte (e : Env) : Byte := e.init ++ BitVec.ofBool e.dir ++ e.period

/-- A write of `NRx2`: the three fields (R632). -/
def Env.writeByte (e : Env) (v : Byte) : Env :=
  { e with init := v.extractLsb' 4 4, dir := v.getLsbD 3, period := v.extractLsb' 0 3 }

/-- `dac[c] <- (v & 0xF8) != 0` (R626, R632). -/
def dacOf (v : Byte) : Bool := decide (v &&& 0xF8 ≠ 0)

/-- `freq[7:0] <- v` (R633). -/
def freqLow (f : BitVec 11) (v : Byte) : BitVec 11 := f.extractLsb' 8 3 ++ v

/-- `freq[10:8] <- v[2:0]` (R634). -/
def freqHigh (f : BitVec 11) (v : Byte) : BitVec 11 := v.extractLsb' 0 3 ++ f.extractLsb' 0 8

/-- `NRx4`, read: `len_en` in bit 6, every other bit 1 (R634). -/
def readLenEn (c : Chan) : Byte := 1#1 ++ BitVec.ofBool c.lenEn ++ 0b111111#6

/-- A read of an audio register: the stored fields with the read mask of its rule (R628 to R650). -/
def Apu.readNr (a : Apu) : NrReg → Byte
  | .nr10 => 1#1 ++ a.sweep.pace ++ BitVec.ofBool a.sweep.dir ++ a.sweep.step
  | .nr11 => a.ch1.duty ++ 0b111111#6
  | .nr12 => a.ch1.env.readByte
  | .nr13 => 0xFF
  | .nr14 => readLenEn a.ch1.ch
  | .nr21 => a.ch2.duty ++ 0b111111#6
  | .nr22 => a.ch2.env.readByte
  | .nr23 => 0xFF
  | .nr24 => readLenEn a.ch2.ch
  | .nr30 => BitVec.ofBool a.ch3.ch.dac ++ 0b1111111#7
  | .nr31 => 0xFF
  | .nr32 => 1#1 ++ a.ch3.level ++ 0b11111#5
  | .nr33 => 0xFF
  | .nr34 => readLenEn a.ch3.ch
  | .nr41 => 0xFF
  | .nr42 => a.ch4.env.readByte
  | .nr43 => a.ch4.clkShift ++ BitVec.ofBool a.ch4.width ++ a.ch4.divCode
  | .nr44 => readLenEn a.ch4.ch
  | .nr50 => a.nr50
  | .nr51 => a.nr51
  | .nr52 =>
    BitVec.ofBool a.on ++ 0b111#3 ++ BitVec.ofBool a.ch4.ch.audible ++ BitVec.ofBool a.ch3.ch.audible
      ++ BitVec.ofBool a.ch2.ch.audible ++ BitVec.ofBool a.ch1.ch.audible

/-- `NRx1` of a pulse channel (R631, R635). -/
def Pulse.writeDuty (p : Pulse) (v : Byte) : Pulse :=
  { p with duty := v.extractLsb' 6 2, ch := { p.ch with len := 64 - (v.extractLsb' 0 6).toNat } }

/-- `NRx2` of a pulse channel (R632, R636). -/
def Pulse.writeEnv (p : Pulse) (v : Byte) : Pulse :=
  { p with env := p.env.writeByte v, ch := { p.ch with dac := dacOf v } }

/-- `NRx4` of a pulse channel before its trigger (R634, R638). -/
def Pulse.writeControl (p : Pulse) (v : Byte) : Pulse :=
  { p with ch := { p.ch with lenEn := v.getLsbD 6 }, freq := freqHigh p.freq v }

/-- `NR34` before its trigger (R643). -/
def WaveCh.writeControl (w : WaveCh) (v : Byte) : WaveCh :=
  { w with ch := { w.ch with lenEn := v.getLsbD 6 }, freq := freqHigh w.freq v }

/-- The master disable (R680): every channel field 0, `NR50`, `NR51` and the enable 0; sequencer, output counter and wave
table keep. -/
def Apu.powerOff (a : Apu) : Apu :=
  { a with
    on := false, nr50 := 0, nr51 := 0, ch1 := .zero, sweep := .zero, ch2 := .zero, ch3 := .zero, ch4 := .zero }

/-- A write of `NR52`: only bit 7 matters (R650, R680, R681). -/
def Apu.writeNr52 (a : Apu) (v : Byte) : Apu :=
  if a.on && !v.getLsbD 7 then a.powerOff
  else if !a.on && v.getLsbD 7 then { a with on := true }
  else a

/-- A write of an audio register other than `NR52` with the master enable set (R630 to R649). -/
def Apu.writeNrOn (a : Apu) (r : NrReg) (v : Byte) : Apu :=
  match r with
  | .nr10 =>
    { a with sweep := { a.sweep with pace := v.extractLsb' 4 3, dir := v.getLsbD 3, step := v.extractLsb' 0 3 } }
  | .nr11 => { a with ch1 := a.ch1.writeDuty v }
  | .nr12 => { a with ch1 := a.ch1.writeEnv v }
  | .nr13 => { a with ch1 := { a.ch1 with freq := freqLow a.ch1.freq v } }
  | .nr14 =>
    let a' := { a with ch1 := a.ch1.writeControl v }
    if v.getLsbD 7 then a'.trigger1 else a'
  | .nr21 => { a with ch2 := a.ch2.writeDuty v }
  | .nr22 => { a with ch2 := a.ch2.writeEnv v }
  | .nr23 => { a with ch2 := { a.ch2 with freq := freqLow a.ch2.freq v } }
  | .nr24 =>
    let p := a.ch2.writeControl v
    { a with ch2 := if v.getLsbD 7 then p.trigger else p }
  | .nr30 => { a with ch3 := { a.ch3 with ch := { a.ch3.ch with dac := v.getLsbD 7 } } }
  | .nr31 => { a with ch3 := { a.ch3 with ch := { a.ch3.ch with len := 256 - v.toNat } } }
  | .nr32 => { a with ch3 := { a.ch3 with level := v.extractLsb' 5 2 } }
  | .nr33 => { a with ch3 := { a.ch3 with freq := freqLow a.ch3.freq v } }
  | .nr34 =>
    let w := a.ch3.writeControl v
    { a with ch3 := if v.getLsbD 7 then w.trigger else w }
  | .nr41 => { a with ch4 := { a.ch4 with ch := { a.ch4.ch with len := 64 - (v.extractLsb' 0 6).toNat } } }
  | .nr42 => { a with ch4 := { a.ch4 with env := a.ch4.env.writeByte v, ch := { a.ch4.ch with dac := dacOf v } } }
  | .nr43 =>
    { a with ch4 :=
      { a.ch4 with clkShift := v.extractLsb' 4 4, width := v.getLsbD 3, divCode := v.extractLsb' 0 3 } }
  | .nr44 =>
    let n := { a.ch4 with ch := { a.ch4.ch with lenEn := v.getLsbD 6 } }
    { a with ch4 := if v.getLsbD 7 then n.trigger else n }
  | .nr50 => { a with nr50 := v }
  | .nr51 => { a with nr51 := v }
  | .nr52 => a.writeNr52 v

/-- A write of an audio register: ignored while the master enable is 0, except `NR52` (R628, R650, R652). -/
def Apu.writeNr (a : Apu) (r : NrReg) (v : Byte) : Apu :=
  if r = .nr52 then a.writeNr52 v
  else if a.on then a.writeNrOn r v
  else a

end Sys2Proof.Machine
end

