-- ==== Sys2Proof/Machine/Clock.lean ====
section
/-!
DEFINITION. The real-time clock of the RTC-capable cartridge (spec/61_cartridge.md R508, R520 to R527) and the `NowUs` port
it reads (spec/00_scope.md R15).
-/
namespace Sys2Proof.Machine

/-- `day`, the nine-bit day counter (R522). -/
def Rtc.day (r : Rtc) : Nat := (if r.day8 then 0x100 else 0) + r.dl.toNat

/-- `rtc.dh` as stored: bits 7, 6 and 0 (R508). -/
def Rtc.dh (r : Rtc) : Byte :=
  BitVec.ofBool r.carry ++ BitVec.ofBool r.halt ++ 0#5 ++ BitVec.ofBool r.day8

/-- `rtc.dh <- v & 0xC1` (R526). -/
def Rtc.setDh (r : Rtc) (v : Byte) : Rtc :=
  { r with carry := v.getLsbD 7, halt := v.getLsbD 6, day8 := v.getLsbD 0 }

/-- A clock register as a byte; bits not stored read as 0 (R508). -/
def Rtc.get (r : Rtc) : RtcField → Byte
  | .seconds => r.s.setWidth 8
  | .minutes => r.m.setWidth 8
  | .hours => r.h.setWidth 8
  | .dayLow => r.dl
  | .dayHigh => r.dh

/-- A clock register written with its mask (R526). -/
def Rtc.set (r : Rtc) (f : RtcField) (v : Byte) : Rtc :=
  match f with
  | .seconds => { r with s := v.setWidth 6 }
  | .minutes => { r with m := v.setWidth 6 }
  | .hours => { r with h := v.setWidth 5 }
  | .dayLow => { r with dl := v }
  | .dayHigh => r.setDh v

/-- The register `ram_sel` chooses, if any (R508, R509). -/
def rtcSelected (ramSel : BitVec 4) : Option RtcField :=
  if ramSel = 0x8 then some .seconds
  else if ramSel = 0x9 then some .minutes
  else if ramSel = 0xA then some .hours
  else if ramSel = 0xB then some .dayLow
  else if ramSel = 0xC then some .dayHigh
  else none

/-- One more day: 511 wraps to 0 and sets the sticky carry (R522, R523). -/
def Rtc.tickDay (r : Rtc) : Rtc :=
  if r.day + 1 = 512 then { r with dl := 0, day8 := false, carry := true }
  else { r with dl := BitVec.ofNat 8 (r.day + 1), day8 := decide (r.day + 1 ≥ 0x100) }

/-- One more hour (R522). -/
def Rtc.tickHour (r : Rtc) : Rtc :=
  if r.h + 1 = 24 then { r with h := 0 }.tickDay else { r with h := r.h + 1 }

/-- One more minute (R522). -/
def Rtc.tickMinute (r : Rtc) : Rtc :=
  if r.m + 1 = 60 then { r with m := 0 }.tickHour else { r with m := r.m + 1 }

/-- `RtcTick()`, one second: each register is as wide as it is stored and counts modulo its width, carrying only at its own
limit (R522). -/
def Rtc.tick (r : Rtc) : Rtc :=
  if r.s + 1 = 60 then { r with s := 0 }.tickMinute else { r with s := r.s + 1 }

/-- `repeat secs times: RtcTick()` (R520). -/
def Rtc.ticks : Nat → Rtc → Rtc
  | 0, r => r
  | n + 1, r => Rtc.ticks n r.tick

/-- The clock and its anchor brought up to the time `now`, in microseconds: `RtcAdvance()` after its clock read (R520). A
halted clock is frozen; the fraction of a second stays in the anchor. -/
def Cart.advanceTo (c : Cart) (now : Nat) : Cart :=
  if c.rtc.halt then c
  else
    { c with
      rtcAnchor := c.rtcAnchor + (now - c.rtcAnchor) / 1000000 * 1000000
      rtc := c.rtc.ticks ((now - c.rtcAnchor) / 1000000) }

/-- The time the next read of `NowUs` gives: the last one plus the free increase of that read (R15; log entry 4). -/
def State.nextNow (s : State) : Nat := s.host.now + Config.nowDelta s.host.nowReads

/-- Reading `NowUs` makes its value the last one read. -/
def State.readNow (s : State) : State :=
  { s with host := { s.host with now := s.nextNow, nowReads := s.host.nowReads + 1 } }

/-- `RtcAdvance()` (R520): read `NowUs`, then advance unless halted. -/
def State.rtcAdvance (s : State) : State :=
  { s.readNow with cart := s.cart.advanceTo s.nextNow }

/-- A clock register write (R526, R524): `RtcAdvance()`, the masked write to the live register, and a fresh anchor when the
write un-halts the clock. -/
def State.rtcWrite (s : State) (f : RtcField) (v : Byte) : State :=
  let t := s.rtcAdvance
  let r := t.cart.rtc.set f v
  let u := { t with cart := { t.cart with rtc := r } }
  if t.cart.rtc.halt && !r.halt then
    { u.readNow with cart := { u.cart with rtcAnchor := u.nextNow } }
  else u

end Sys2Proof.Machine
end

