-- ==== Sys2Proof/Machine/Cartridge.lean ====
section
/-!
DEFINITION. The cartridge controller: bank switching, the RAM window, the control latches (spec/61_cartridge.md R503 to
R516). A read is split in two: the byte it returns, and its one possible effect on the state, the advance of the live
clock (`State.cartTouch`, R527, spec/20_memory.md R113).
-/
namespace Sys2Proof.Machine

/-- `OPEN_BUS` (spec/00_scope.md R5). -/
def openBus : Byte := 0xFF

/-- `addr - base`, the index of an address in the window that starts at `base`. -/
def offsetIn (addr base : Word) : Nat := (addr - base).toNat

/-- `RomByte(off)` (R505). -/
def Cart.romByte (c : Cart) (off : Nat) : Byte :=
  if off < c.romSize then c.rom.read off else openBus

/-- `EffRomBank()`: mask first, then remap bank 0 to bank 1 (R504). -/
def Cart.effRomBank (c : Cart) : Nat :=
  let b := c.romBank.toNat &&& (c.romBanks - 1)
  if b = 0 then 1 else b

/-- Which image byte an address of the ROM window 0x0000 to 0x7FFF shows (R503). -/
def Cart.romOffset (c : Cart) (addr : Word) : Nat :=
  if addr.toNat < 0x4000 then addr.toNat
  else
    match c.kind with
    | .romOnly => addr.toNat
    | .mbc3Rtc => c.effRomBank * 0x4000 + offsetIn addr 0x4000

/-- What the RAM window 0xA000 to 0xBFFF reaches (R506 to R509). -/
inductive RamTarget where
  /-- A byte of `cart_ram`. -/
  | ram (off : Nat)
  /-- A clock register. -/
  | clock (f : RtcField)
  /-- Nothing: reads `OPEN_BUS`, writes are ignored. -/
  | nothing
  deriving DecidableEq, Repr

/-- The target of `addr` in the RAM window (R506, R507). -/
def Cart.ramTarget (c : Cart) (addr : Word) : RamTarget :=
  match c.kind with
  | .romOnly => .nothing
  | .mbc3Rtc =>
    if !c.ramEnable then .nothing
    else if c.ramSel.toNat ≤ 0x03 then
      if c.ramBanks = 0 then .nothing
      else .ram ((c.ramSel.toNat &&& (c.ramBanks - 1)) * 0x2000 + offsetIn addr 0xA000)
    else
      match rtcSelected c.ramSel with
      | some f => .clock f
      | none => .nothing

/-- `RamWindowRead(addr)`: the byte returned; a clock register answers with its latched copy (R507, R527). -/
def Cart.ramWindowRead (c : Cart) (addr : Word) : Byte :=
  match c.ramTarget addr with
  | .ram off => c.ram.read off
  | .clock f => c.lat.get f
  | .nothing => openBus

/-- `CartRead(addr)` (R503). -/
def Cart.read (c : Cart) (addr : Word) : Byte :=
  if addr.toNat < 0x8000 then c.romByte (c.romOffset addr) else c.ramWindowRead addr

/-- The side effect of a read of the RAM window: a selected clock register first advances the live clock (R527). -/
def State.cartTouch (s : State) (addr : Word) : State :=
  match s.cart.ramTarget addr with
  | .clock _ => s.rtcAdvance
  | _ => s

/-- The latch trigger (R514): the sequence 0x00, 0x01 advances the clock and copies it. -/
def State.latchWrite (s : State) (v : Byte) : State :=
  let t :=
    if s.cart.latchPrev = 0x00 ∧ v = 0x01 then
      let u := s.rtcAdvance
      { u with cart := { u.cart with lat := u.cart.rtc } }
    else s
  { t with cart := { t.cart with latchPrev := v } }

/-- `RamWindowWrite(addr, v)` (R507). -/
def State.ramWindowWrite (s : State) (addr : Word) (v : Byte) : State :=
  match s.cart.ramTarget addr with
  | .ram off => { s with cart := { s.cart with ram := s.cart.ram.write off v } }
  | .clock f => s.rtcWrite f v
  | .nothing => s

/-- `CartWrite(addr, v)` (R510 to R514). -/
def State.cartWrite (s : State) (addr : Word) (v : Byte) : State :=
  match s.cart.kind with
  | .romOnly => s
  | .mbc3Rtc =>
    if addr.toNat < 0x2000 then
      { s with cart := { s.cart with ramEnable := decide (v &&& 0x0F = 0x0A) } }
    else if addr.toNat < 0x4000 then
      { s with cart := { s.cart with romBank := v.setWidth 7 } }
    else if addr.toNat < 0x6000 then
      { s with cart := { s.cart with ramSel := v.setWidth 4 } }
    else if addr.toNat < 0x8000 then
      s.latchWrite v
    else
      s.ramWindowWrite addr v

end Sys2Proof.Machine
end

