-- ==== Sys2Proof/Machine/Interrupts.lean ====
section
/-!
DEFINITION. The pending and enabled masks, requests, priority and vectors (spec/10_state.md R31 to R34,
spec/60_exceptions.md R420 to R427). Taking an interrupt is `State.service` in `Machine/Ops.lean`.
-/
namespace Sys2Proof.Machine

/-- The five sources, in the order that numbers them (R33, R427). -/
inductive IntSource where
  | vBlank | stat | timer | serial | input
  deriving DecidableEq, Repr

/-- The bit of `IE` and `IF` that belongs to a source (R33). -/
def IntSource.bit : IntSource → BitVec 5
  | .vBlank => 0b00001
  | .stat => 0b00010
  | .timer => 0b00100
  | .serial => 0b01000
  | .input => 0b10000

/-- `IVEC[i]` (R424). -/
def IntSource.vector : IntSource → Word
  | .vBlank => 0x0040
  | .stat => 0x0048
  | .timer => 0x0050
  | .serial => 0x0058
  | .input => 0x0060

/-- `RequestInterrupt(i)`: `IF[i] <- 1` (R421). -/
def State.requestInterrupt (s : State) (i : IntSource) : State := { s with iflag := s.iflag ||| i.bit }

/-- `pend = IE & IF & 0x1F` (R400 line 3). -/
def State.pend (s : State) : BitVec 5 := s.ie.setWidth 5 &&& s.iflag

/-- "The lowest-numbered pending+enabled bit wins" (R422); `none` when nothing is pending. -/
def lowestSource (p : BitVec 5) : Option IntSource :=
  if p.getLsbD 0 then some .vBlank
  else if p.getLsbD 1 then some .stat
  else if p.getLsbD 2 then some .timer
  else if p.getLsbD 3 then some .serial
  else if p.getLsbD 4 then some .input
  else none

/-- A read of `IF`: the three unused bits read 1 (R32). -/
def State.readIf (s : State) : Byte := 0b111#3 ++ s.iflag

/-- A write of `IF` stores `v[4:0]` (R32). -/
def State.writeIf (s : State) (v : Byte) : State := { s with iflag := v.setWidth 5 }

end Sys2Proof.Machine
end

