-- ==== Sys2Proof/Machine/Input.lean ====
section
/-!
DEFINITION. The input register, the button ports and the serial stub (spec/60_exceptions.md R460 to R468).
-/
namespace Sys2Proof.Machine

/-- `pressed[b]` (R460). -/
def Input.pressed (p : Input) : Button → Bool
  | .right => p.right
  | .left => p.left
  | .up => p.up
  | .down => p.down
  | .aBtn => p.aBtn
  | .bBtn => p.bBtn
  | .select => p.select
  | .start => p.start

/-- `pressed[b] <- v`. -/
def Input.setPressed (p : Input) (b : Button) (v : Bool) : Input :=
  match b with
  | .right => { p with right := v }
  | .left => { p with left := v }
  | .up => { p with up := v }
  | .down => { p with down := v }
  | .aBtn => { p with aBtn := v }
  | .bBtn => { p with bBtn := v }
  | .select => { p with select := v }
  | .start => { p with start := v }

/-- `lines[k]`, given the direction button and the face button of line `k`: 0 when a selected group has it pressed; a
select bit is active when 0 (R460). -/
def Input.line (p : Input) (direction face : Bool) : Bool :=
  !((!p.sel.getLsbD 0 && direction) || (!p.sel.getLsbD 1 && face))

/-- The four lines, line 3 in the high place (R460). -/
def Input.lines (p : Input) : BitVec 4 :=
  BitVec.ofBool (p.line p.down p.start) ++ BitVec.ofBool (p.line p.up p.select)
    ++ BitVec.ofBool (p.line p.left p.bBtn) ++ BitVec.ofBool (p.line p.right p.aBtn)

/-- A read of `P1`: `0xC0 | (sel << 4) | lines` (R460). -/
def Input.readP1 (p : Input) : Byte := 0b11#2 ++ p.sel ++ p.lines

/-- A write of `P1`: `sel <- v[5:4]` (R460). -/
def Input.writeP1 (p : Input) (v : Byte) : Input := { p with sel := v.extractLsb' 4 2 }

/-- `ButtonPress(b)` (R462). -/
def State.buttonPress (s : State) (b : Button) : State :=
  if s.input.pressed b then s
  else { s.requestInterrupt .input with input := s.input.setPressed b true }

/-- `ButtonRelease(b)` (R462). -/
def State.buttonRelease (s : State) (b : Button) : State :=
  { s with input := s.input.setPressed b false }

/-- A read of `SC`: `0x7E | SC` (R468). -/
def Serial.readSc (p : Serial) : Byte := BitVec.ofBool p.sc7 ++ 0b111111#6 ++ BitVec.ofBool p.sc0

/-- A write of `SC` stores bits 7 and 0; no transfer takes place (R468). -/
def Serial.writeSc (p : Serial) (v : Byte) : Serial := { p with sc7 := v.getLsbD 7, sc0 := v.getLsbD 0 }

end Sys2Proof.Machine
end

