-- ==== Sys2Proof/Machine/Ppu.lean ====
section
/-!
DEFINITION. The pixel processor: registers, scanline state machine, status interrupt, rasterizer (spec/62_ppu.md R550 to
R596). The rasterizer is a pure function of the pixel processor and of `vram`; the state machine acts on the whole state
because its exit actions read `oam` and `vram` and raise interrupts.
-/
namespace Sys2Proof.Machine

/-! ### Registers -/

/-- `LCDC[k]` (R555). -/
def Ppu.lcdcBit (p : Ppu) (k : Nat) : Bool := p.lcdc.getLsbD k

/-- `LCDC[7]`, display enable. -/
def Ppu.on (p : Ppu) : Bool := p.lcdcBit 7

/-- The mode number (R552). -/
def PpuMode.code : PpuMode → BitVec 2
  | .hBlank => 0
  | .vBlank => 1
  | .oamScan => 2
  | .transfer => 3

/-- The budget of a mode in cycles (R562, R563). -/
def PpuMode.budget : PpuMode → Nat
  | .hBlank => 204
  | .vBlank => 456
  | .oamScan => 80
  | .transfer => 172

/-- A read of `STAT`: `0x80 | (stat_en << 3) | ((LY = LYC) << 2) | mode` (R556). -/
def Ppu.readStat (p : Ppu) : Byte :=
  1#1 ++ p.statEn ++ BitVec.ofBool (decide (p.ly = p.lyc)) ++ p.mode.code

/-- Is `oam` locked for the decoder (spec/20_memory.md R93)? -/
def Ppu.oamLocked (p : Ppu) : Bool := p.on && (p.mode == .oamScan || p.mode == .transfer)

/-- The level of the STAT line (R572). -/
def Ppu.statLine (p : Ppu) : Bool :=
  (p.statEn.getLsbD 3 && decide (p.ly = p.lyc))
    || (p.statEn.getLsbD 2 && p.mode == .oamScan)
    || (p.statEn.getLsbD 1 && p.mode == .vBlank)
    || (p.statEn.getLsbD 0 && p.mode == .hBlank)

/-- `EvalStat()`: a request on the rising edge of the line (R572). -/
def State.evalStat (s : State) : State :=
  if s.ppu.on then
    let t := if s.ppu.statLine && !s.ppu.statLevel then s.requestInterrupt .stat else s
    { t with ppu := { t.ppu with statLevel := s.ppu.statLine } }
  else { s with ppu := { s.ppu with statLevel := false } }

/-- A write of `STAT` (R556). -/
def State.writeStat (s : State) (v : Byte) : State :=
  { s with ppu := { s.ppu with statEn := v.extractLsb' 3 4 } }.evalStat

/-- A write of `LYC` (R558). -/
def State.writeLyc (s : State) (v : Byte) : State :=
  { s with ppu := { s.ppu with lyc := v } }.evalStat

/-- The display switched off (R570): the buffers and `sprites` keep their contents. -/
def Ppu.switchOff (p : Ppu) : Ppu :=
  { p with ly := 0, modeClock := 0, mode := .hBlank, winLine := 0, statLevel := false }

/-- The display switched on (R570), before its `EvalStat()`. -/
def Ppu.switchOn (p : Ppu) : Ppu :=
  { p with ly := 0, modeClock := 0, mode := .oamScan, winLine := 0 }

/-- A write of `LCDC` (R570). -/
def State.writeLcdc (s : State) (v : Byte) : State :=
  let p := { s.ppu with lcdc := v }
  if s.ppu.on && !p.on then { s with ppu := p.switchOff }
  else if !s.ppu.on && p.on then { s with ppu := p.switchOn }.evalStat
  else { s with ppu := p }

/-! ### Background and window (R580 to R585) -/

/-- Pixel `c` of a tile row given by its two bitplanes: `(hi[7 - c] << 1) | lo[7 - c]` (R580). -/
def tilePixel (lo hi : Byte) (c : Nat) : BitVec 2 :=
  BitVec.ofBool (hi.getLsbD (7 - c)) ++ BitVec.ofBool (lo.getLsbD (7 - c))

/-- `shade = (P >> (2 * idx)) & 3` (R559). -/
def paletteShade (pal : Byte) (idx : BitVec 2) : BitVec 2 := (pal >>> (2 * idx.toNat)).setWidth 2

/-- The `vram` offset of a background or window tile: unsigned from 0, or signed around 0x1000 (R580). -/
def Ppu.tileBase (p : Ppu) (t : Byte) : Nat :=
  if p.lcdcBit 4 then t.toNat * 16 else (0x1000 + t.toInt * 16).toNat

/-- The `vram` offset of a tile map (R581). -/
def mapBase (high : Bool) : Nat := if high then 0x1C00 else 0x1800

/-- Does the window supply the pixel at column `x` of line `y` (R582, R584)? -/
def Ppu.windowAt (p : Ppu) (y x : Nat) : Bool :=
  p.lcdcBit 0 && p.lcdcBit 5 && decide (p.wy.toNat ≤ y) && decide (p.wx.toNat ≤ x + 7)

/-- The colour index at plane position (`px`, `py`) of the layer whose map is at `map` (R582). -/
def Ppu.layerIndex (p : Ppu) (vram : Memory) (map px py : Nat) : BitVec 2 :=
  let base := p.tileBase (vram.read (map + 32 * (py / 8) + px / 8))
  tilePixel (vram.read (base + 2 * (py % 8))) (vram.read (base + 2 * (py % 8) + 1)) (px % 8)

/-- The colour index of column `x` of line `y` (R582, R583, R584, R585). -/
def Ppu.bgIndexAt (p : Ppu) (vram : Memory) (y x : Nat) : BitVec 2 :=
  if !p.lcdcBit 0 then 0
  else if p.windowAt y x then
    p.layerIndex vram (mapBase (p.lcdcBit 6)) (x + 7 - p.wx.toNat) p.winLine
  else
    p.layerIndex vram (mapBase (p.lcdcBit 3)) ((x + p.scx.toNat) % 256) ((y + p.scy.toNat) % 256)

/-- The shade of a background or window pixel: 0 with the layers off, else through `BGP` (R582, R585). -/
def Ppu.bgShade (p : Ppu) (idx : BitVec 2) : BitVec 2 :=
  if p.lcdcBit 0 then paletteShade p.bgp idx else 0

/-- `window_used` of line `y` (R582). -/
def Ppu.windowUsed (p : Ppu) (y : Nat) : Bool := (List.range 160).any (p.windowAt y)

/-- `bg_idx` of line `y`. -/
def Ppu.bgRow (p : Ppu) (vram : Memory) (y : Nat) : List (BitVec 2) :=
  (List.range 160).map (p.bgIndexAt vram y)

/-! ### Sprites (R590 to R595) -/

/-- `h`, the sprite height (R590). -/
def Ppu.spriteHeight (p : Ppu) : Nat := if p.lcdcBit 2 then 16 else 8

/-- `sprites[i].y <= y + 16 < sprites[i].y + h` (R590). -/
def Sprite.onLine (sp : Sprite) (h y : Nat) : Bool :=
  decide (sp.y.toNat ≤ y + 16) && decide (y + 16 < sp.y.toNat + h)

/-- The first ten sprites on the line, in index order, each with its index (R590, R592). -/
def Ppu.selectSprites (p : Ppu) (y : Nat) : List (Sprite × Nat) :=
  (p.sprites.zipIdx.filter (fun e => e.1.onLine p.spriteHeight y)).take 10

/-- Is `a` drawn before `b`: the smaller `x`, then the smaller index (R593)? -/
def spriteBefore (a b : Sprite × Nat) : Bool :=
  decide (a.1.x.toNat < b.1.x.toNat) || (a.1.x == b.1.x && decide (a.2 < b.2))

/-- Insertion into a list sorted by `spriteBefore`. -/
def insertSprite (a : Sprite × Nat) : List (Sprite × Nat) → List (Sprite × Nat)
  | [] => [a]
  | b :: bs => if spriteBefore b a then b :: insertSprite a bs else a :: b :: bs

/-- `sort sel by (sprites[i].x, i) ascending` (R590, R593). -/
def sortSprites (sel : List (Sprite × Nat)) : List (Sprite × Nat) := sel.foldr insertSprite []

/-- The line being drawn: the row of shades and the columns a sprite pixel already owns. -/
structure LineBuf where
  row : List (BitVec 2)
  drawn : List Bool
  deriving DecidableEq, Repr

/-- Which row of the sprite is on line `y`, flipped if `attr[6]` (R590, R594). -/
def Sprite.row (sp : Sprite) (h y : Nat) : Nat :=
  let r := y + 16 - sp.y.toNat
  if sp.attr.getLsbD 6 then h - 1 - r else r

/-- The tile number; in 16-line mode bit 0 is ignored (R594). -/
def Sprite.tileNo (sp : Sprite) (h : Nat) : Nat :=
  if h = 16 then (sp.tile &&& 0xFE).toNat else sp.tile.toNat

/-- The colour index of column `c` of the sprite on line `y`, flipped if `attr[5]` (R590, R594). -/
def Sprite.index (sp : Sprite) (vram : Memory) (h y c : Nat) : BitVec 2 :=
  let base := sp.tileNo h * 16 + 2 * sp.row h y
  tilePixel (vram.read base) (vram.read (base + 1)) (if sp.attr.getLsbD 5 then 7 - c else c)

/-- The palette of a sprite (R590). -/
def Ppu.spritePalette (p : Ppu) (sp : Sprite) : Byte := if sp.attr.getLsbD 4 then p.obp1 else p.obp0

/-- Column `c` of one sprite (R590, R595): off screen, already owned, transparent and behind-the-background pixels are
skipped and leave the column free. -/
def Ppu.drawPixel (p : Ppu) (vram : Memory) (y : Nat) (bg : List (BitVec 2)) (sp : Sprite) (lb : LineBuf) (c : Nat) :
    LineBuf :=
  if sp.x.toNat + c < 8 ∨ 160 + 8 ≤ sp.x.toNat + c then lb
  else
    let col := sp.x.toNat + c - 8
    let idx := sp.index vram p.spriteHeight y c
    if lb.drawn.getD col false then lb
    else if idx = 0 then lb
    else if sp.attr.getLsbD 7 && bg.getD col 0 != 0 then lb
    else { row := lb.row.set col (paletteShade (p.spritePalette sp) idx), drawn := lb.drawn.set col true }

/-- The eight columns of one sprite, left to right. -/
def Ppu.drawSprite (p : Ppu) (vram : Memory) (y : Nat) (bg : List (BitVec 2)) (lb : LineBuf) (sp : Sprite) : LineBuf :=
  (List.range 8).foldl (p.drawPixel vram y bg sp) lb

/-- The sprite part of `RenderLine(y)` (R590). -/
def Ppu.drawSprites (p : Ppu) (vram : Memory) (y : Nat) (bg : List (BitVec 2)) (lb : LineBuf) : LineBuf :=
  if p.lcdcBit 1 then
    ((sortSprites (p.selectSprites y)).map Prod.fst).foldl (p.drawSprite vram y bg) lb
  else lb

/-- `RenderLine(y)` (R582, R590): row `y` of the framebuffer, `bg_idx`, `obj_drawn` and the window line counter. -/
def Ppu.renderLine (p : Ppu) (vram : Memory) (y : Nat) : Ppu :=
  let bg := p.bgRow vram y
  let lb := p.drawSprites vram y bg { row := bg.map p.bgShade, drawn := p.objDrawn }
  { p with
    bgIdx := bg
    objDrawn := lb.drawn
    fb := p.fb.set y lb.row
    winLine := if p.windowUsed y then p.winLine + 1 else p.winLine }

/-! ### The scanline state machine (R562 to R567) -/

/-- Descriptor `i` as it stands in `oam` (R564, R591). -/
def spriteAt (oam : Memory) (i : Nat) : Sprite where
  y := oam.read (4 * i)
  x := oam.read (4 * i + 1)
  tile := oam.read (4 * i + 2)
  attr := oam.read (4 * i + 3)

/-- `ExitScan()` (R564). -/
def State.exitScan (s : State) : State :=
  { s with ppu := { s.ppu with sprites := (List.range 40).map (spriteAt s.oam), mode := .transfer } }.evalStat

/-- `ExitTransfer()` (R565). -/
def State.exitTransfer (s : State) : State :=
  { s with ppu := { s.ppu.renderLine s.vram s.ppu.ly.toNat with mode := .hBlank } }.evalStat

/-- The scratch cleared and the line advanced: the common start of `ExitHBlank()` (R566). -/
def Ppu.nextLine (p : Ppu) : Ppu :=
  { p with bgIdx := List.replicate 160 0, objDrawn := List.replicate 160 false, ly := p.ly + 1 }

/-- `ExitHBlank()` (R566): into vertical blank after line 143, with the request and the frame-ready signal. -/
def State.exitHBlank (s : State) : State :=
  let p := s.ppu.nextLine
  if p.ly = 144 then
    { s.requestInterrupt .vBlank with
      ppu := { p with mode := .vBlank }
      host := { s.host with frameReady := true } }.evalStat
  else { s with ppu := { p with mode := .oamScan } }.evalStat

/-- `ExitVBlankLine()` (R567). -/
def State.exitVBlankLine (s : State) : State :=
  if s.ppu.ly + 1 = 154 then
    { s with ppu := { s.ppu with ly := 0, winLine := 0, mode := .oamScan } }.evalStat
  else { s with ppu := { s.ppu with ly := s.ppu.ly + 1 } }.evalStat

/-- The exit action of the current mode. -/
def State.exitMode (s : State) : State :=
  match s.ppu.mode with
  | .oamScan => s.exitScan
  | .transfer => s.exitTransfer
  | .hBlank => s.exitHBlank
  | .vBlank => s.exitVBlankLine

/-- The loop of `PpuAdvance` (R562): while the clock holds the budget of the current mode, take it off and run the exit
action. `fuel` bounds the number of boundaries. -/
def State.ppuLoop : Nat → State → State
  | 0, s => s
  | fuel + 1, s =>
    if s.ppu.mode.budget ≤ s.ppu.modeClock then
      State.ppuLoop fuel
        { s with ppu := { s.ppu with modeClock := s.ppu.modeClock - s.ppu.mode.budget } }.exitMode
    else s

/-- `PpuAdvance(n)` (R562). The smallest budget is 80, so the fuel covers every boundary the clock can hold. -/
def State.ppuAdvance (s : State) (n : Nat) : State :=
  if s.ppu.on then
    State.ppuLoop ((s.ppu.modeClock + n) / 80 + 1)
      { s with ppu := { s.ppu with modeClock := s.ppu.modeClock + n } }
  else s

end Sys2Proof.Machine
end

