-- ==== Sys2Proof/Machine/Timer.lean ====
section
/-!
DEFINITION. The interval timer (spec/60_exceptions.md R450 to R457).
-/
namespace Sys2Proof.Machine

/-- `TIMER_PERIOD[TAC[1:0]]` in cycles (R453). -/
def Timer.period (t : Timer) : Nat :=
  match t.tac.getLsbD 1, t.tac.getLsbD 0 with
  | false, false => 1024
  | false, true => 16
  | true, false => 64
  | true, true => 256

/-- A read of `DIV`: `sysclk[15:8]` (R451). -/
def Timer.readDiv (t : Timer) : Byte := t.sysclk.extractLsb' 8 8

/-- A write of any value to `DIV` clears the whole counter and nothing else (R451). -/
def Timer.writeDiv (t : Timer) : Timer := { t with sysclk := 0 }

/-- A read of `TAC`: unused bits read 1 (R453). -/
def Timer.readTac (t : Timer) : Byte := 0b11111#5 ++ t.tac

/-- A write of `TAC` stores `v[2:0]`; `tsub` is reduced modulo the new period (R453). -/
def Timer.writeTac (t : Timer) (v : Byte) : Timer :=
  let u := { t with tac := v.setWidth 3 }
  { u with tsub := u.tsub % u.period }

/-- One tick of the accumulator: 0xFF becomes 0x00 and leaves the overflow flag for the next batch (R454, R455). -/
def Timer.tick (t : Timer) : Timer :=
  if t.tima = 0xFF then { t with tima := 0x00, overflowPending := true } else { t with tima := t.tima + 1 }

/-- `k` ticks of the accumulator. -/
def Timer.ticks : Nat → Timer → Timer
  | 0, t => t
  | k + 1, t => Timer.ticks k t.tick

/-- Line 3 of `TimerAdvance(n)`: `tsub` collects the cycles and every whole period it holds is one tick (R454). -/
def Timer.count (t : Timer) (n : Nat) : Timer :=
  if t.tac.getLsbD 2 then
    Timer.ticks ((t.tsub + n) / t.period) { t with tsub := (t.tsub + n) % t.period }
  else t

/-- Line 1 of `TimerAdvance(n)`: the reload that an overflow of the previous batch left (R454, R455). -/
def State.timerReload (s : State) : State :=
  if s.timer.overflowPending then
    { s.requestInterrupt .timer with
      timer := { s.timer with tima := s.timer.tma, overflowPending := false } }
  else s

/-- `TimerAdvance(n)` (R454). -/
def State.timerAdvance (s : State) (n : Nat) : State :=
  let t := s.timerReload
  { t with timer := { t.timer with sysclk := t.timer.sysclk + BitVec.ofNat 16 n }.count n }

end Sys2Proof.Machine
end

