-- ==== Sys2Proof/Machine/Bus.lean ====
section
/-!
DEFINITION. The address decoder: windows, I/O dispatch, `MemRead` and `MemWrite`, the DMA port (spec/20_memory.md R80 to
R134, spec/10_state.md R46). `MemRead(a, 1)` is `s.read8 a`, the byte, together with `s.touch8 a`, its effect on the state,
which is none but for a selected clock register (R113); `MemWrite(a, 1, v)` is `s.write8 a v`.
-/
namespace Sys2Proof.Machine

/-! ### Windows -/

/-- The windows of R81. -/
inductive Window where
  | boot | cartRom | vram | cartRam | wram | echo | oam | reserved | io | hram | ie
  deriving DecidableEq, Repr

/-- The first window, in the order of R81, that contains the address (R82); the overlay only while it is mapped. -/
def windowOf (bootMapped : Bool) (a : Word) : Window :=
  if bootMapped ∧ a.toNat < 0x0100 then .boot
  else if a.toNat < 0x8000 then .cartRom
  else if a.toNat < 0xA000 then .vram
  else if a.toNat < 0xC000 then .cartRam
  else if a.toNat < 0xE000 then .wram
  else if a.toNat < 0xFE00 then .echo
  else if a.toNat < 0xFEA0 then .oam
  else if a.toNat < 0xFF00 then .reserved
  else if a.toNat < 0xFF80 then .io
  else if a.toNat < 0xFFFF then .hram
  else .ie

/-- The window of an address in a state. -/
def State.window (s : State) (a : Word) : Window := windowOf s.bootMapped a

/-! ### The I/O registers (spec/10_state.md R46) -/

/-- The registers of the I/O window. -/
inductive IoReg where
  | p1 | sb | sc | div | tima | tma | tac | iflag
  | nr (r : NrReg)
  | wave (i : Nat)
  | lcdc | stat | scy | scx | ly | lyc | dma | bgp | obp0 | obp1 | wy | wx | boot
  deriving DecidableEq, Repr

/-- The table of R46 below the wave table, by the low byte of the address. -/
def ioTableLow : List (Nat × IoReg) :=
  [(0x00, .p1), (0x01, .sb), (0x02, .sc), (0x04, .div), (0x05, .tima), (0x06, .tma), (0x07, .tac), (0x0F, .iflag),
    (0x10, .nr .nr10), (0x11, .nr .nr11), (0x12, .nr .nr12), (0x13, .nr .nr13), (0x14, .nr .nr14),
    (0x16, .nr .nr21), (0x17, .nr .nr22), (0x18, .nr .nr23), (0x19, .nr .nr24),
    (0x1A, .nr .nr30), (0x1B, .nr .nr31), (0x1C, .nr .nr32), (0x1D, .nr .nr33), (0x1E, .nr .nr34),
    (0x20, .nr .nr41), (0x21, .nr .nr42), (0x22, .nr .nr43), (0x23, .nr .nr44),
    (0x24, .nr .nr50), (0x25, .nr .nr51), (0x26, .nr .nr52)]

/-- The table of R46 above the wave table. -/
def ioTableHigh : List (Nat × IoReg) :=
  [(0x40, .lcdc), (0x41, .stat), (0x42, .scy), (0x43, .scx), (0x44, .ly), (0x45, .lyc), (0x46, .dma),
    (0x47, .bgp), (0x48, .obp0), (0x49, .obp1), (0x4A, .wy), (0x4B, .wx), (0x50, .boot)]

/-- The register at an address of the I/O window, by its low byte; `none` where it is unmapped (R95, R97). -/
def ioRegAt (a : Word) : Option IoReg :=
  let k := (loByte a).toNat
  if 0x30 ≤ k ∧ k ≤ 0x3F then some (.wave (k - 0x30))
  else if k < 0x30 then ioTableLow.lookup k
  else ioTableHigh.lookup k

/-- The value a read of a register returns (R95 and the rule of each register). -/
def State.ioRead (s : State) : IoReg → Byte
  | .p1 => s.input.readP1
  | .sb => s.serial.sb
  | .sc => s.serial.readSc
  | .div => s.timer.readDiv
  | .tima => s.timer.tima
  | .tma => s.timer.tma
  | .tac => s.timer.readTac
  | .iflag => s.readIf
  | .nr r => s.apu.readNr r
  | .wave i => s.apu.wave.read i
  | .lcdc => s.ppu.lcdc
  | .stat => s.ppu.readStat
  | .scy => s.ppu.scy
  | .scx => s.ppu.scx
  | .ly => s.ppu.ly
  | .lyc => s.ppu.lyc
  | .dma => s.dmaReg
  | .bgp => s.ppu.bgp
  | .obp0 => s.ppu.obp0
  | .obp1 => s.ppu.obp1
  | .wy => s.ppu.wy
  | .wx => s.ppu.wx
  | .boot => openBus

/-! ### Reads -/

/-- The byte `MemRead(a, 1)` returns (R84 to R98). -/
def State.read8 (s : State) (a : Word) : Byte :=
  match s.window a with
  | .boot => s.bootImage.read a.toNat
  | .cartRom => s.cart.read a
  | .vram => s.vram.read (offsetIn a 0x8000)
  | .cartRam => s.cart.read a
  | .wram => s.wram.read (offsetIn a 0xC000)
  | .echo => s.wram.read (offsetIn a 0xE000)
  | .oam => if s.ppu.oamLocked then openBus else s.oam.read (offsetIn a 0xFE00)
  | .reserved => openBus
  | .io =>
    match ioRegAt a with
    | some r => s.ioRead r
    | none => openBus
  | .hram => s.hram.read (offsetIn a 0xFF80)
  | .ie => s.ie

/-- The effect of a read: "exactly one kind", the clock's lazy advance (R113). -/
def State.touch8 (s : State) (a : Word) : State :=
  match s.window a with
  | .cartRam => s.cartTouch a
  | _ => s

/-! ### The DMA port (R120 to R122) -/

/-- `DMA_STALL`, in cycles (spec/00_scope.md R5). -/
def dmaStallCycles : Nat := 640

/-- `DMA_LEN`, in bytes (spec/00_scope.md R5). -/
def dmaLen : Nat := 160

/-- `u16((v << 8) + i)` (R120). -/
def dmaSource (v : Byte) (i : Nat) : Word := BitVec.ofNat 16 (v.toNat * 0x100 + i)

/-- Copy `k` bytes from index `i` on: each reads through the decoder and writes `oam` past its lock (R120, R122). -/
def State.dmaCopy (s : State) (v : Byte) : Nat → Nat → State
  | _, 0 => s
  | i, k + 1 =>
    let t := s.touch8 (dmaSource v i)
    State.dmaCopy { t with oam := t.oam.write i (s.read8 (dmaSource v i)) } v (i + 1) k

/-- A write of the DMA port: the copy, the register, the stall of the next step (R120, R121). -/
def State.dmaWrite (s : State) (v : Byte) : State :=
  { s.dmaCopy v 0 dmaLen with dmaReg := v, dmaStall := dmaStallCycles }

/-! ### Writes -/

/-- The effect of a write of a register (R95 and the rule of each register). -/
def State.ioWrite (s : State) (r : IoReg) (v : Byte) : State :=
  match r with
  | .p1 => { s with input := s.input.writeP1 v }
  | .sb => { s with serial := { s.serial with sb := v } }
  | .sc => { s with serial := s.serial.writeSc v }
  | .div => { s with timer := s.timer.writeDiv }
  | .tima => { s with timer := { s.timer with tima := v } }
  | .tma => { s with timer := { s.timer with tma := v } }
  | .tac => { s with timer := s.timer.writeTac v }
  | .iflag => s.writeIf v
  | .nr r => { s with apu := s.apu.writeNr r v }
  | .wave i => { s with apu := { s.apu with wave := s.apu.wave.write i v } }
  | .lcdc => s.writeLcdc v
  | .stat => s.writeStat v
  | .scy => { s with ppu := { s.ppu with scy := v } }
  | .scx => { s with ppu := { s.ppu with scx := v } }
  | .ly => s
  | .lyc => s.writeLyc v
  | .dma => s.dmaWrite v
  | .bgp => { s with ppu := { s.ppu with bgp := v } }
  | .obp0 => { s with ppu := { s.ppu with obp0 := v } }
  | .obp1 => { s with ppu := { s.ppu with obp1 := v } }
  | .wy => { s with ppu := { s.ppu with wy := v } }
  | .wx => { s with ppu := { s.ppu with wx := v } }
  | .boot => if v.getLsbD 0 then { s with bootMapped := false } else s

/-- `MemWrite(a, 1, v)` (R85 to R98). -/
def State.write8 (s : State) (a : Word) (v : Byte) : State :=
  match s.window a with
  | .boot => s.cartWrite a v
  | .cartRom => s.cartWrite a v
  | .vram => { s with vram := s.vram.write (offsetIn a 0x8000) v }
  | .cartRam => s.cartWrite a v
  | .wram => { s with wram := s.wram.write (offsetIn a 0xC000) v }
  | .echo => { s with wram := s.wram.write (offsetIn a 0xE000) v }
  | .oam => if s.ppu.oamLocked then s else { s with oam := s.oam.write (offsetIn a 0xFE00) v }
  | .reserved => s
  | .io =>
    match ioRegAt a with
    | some r => s.ioWrite r v
    | none => s
  | .hram => { s with hram := s.hram.write (offsetIn a 0xFF80) v }
  | .ie => { s with ie := v }

end Sys2Proof.Machine
end

