-- ==== Sys2Proof/Machine/Flags.lean ====
section
/-!
DEFINITION. Every result and flag computation of files 42 to 44 of the spec, as pure functions of the operands. Additions
and subtractions are computed exactly on integers and narrowed at the end, as the helpers R254, R255 and R314 say.
-/
namespace Sys2Proof.Machine

/-- What an 8-bit adder returns: `(res, h, c)`. -/
structure Sum8 where
  res : Byte
  h : Bool
  c : Bool
  deriving DecidableEq, Repr

/-- `add8(a, b, cin)` (spec/42_alu8.md R254). -/
def add8 (a b : Byte) (cin : Bool) : Sum8 where
  res := BitVec.ofNat 8 (a.toNat + b.toNat + cin.toNat)
  h := decide (a.toNat % 16 + b.toNat % 16 + cin.toNat > 0x0F)
  c := decide (a.toNat + b.toNat + cin.toNat > 0xFF)

/-- `sub8(a, b, cin)` (R255). -/
def sub8 (a b : Byte) (cin : Bool) : Sum8 where
  res := BitVec.ofInt 8 ((a.toNat : Int) - (b.toNat : Int) - (cin.toNat : Int))
  h := decide (((a.toNat % 16 : Nat) : Int) - ((b.toNat % 16 : Nat) : Int) - (cin.toNat : Int) < 0)
  c := decide ((a.toNat : Int) - (b.toNat : Int) - (cin.toNat : Int) < 0)

/-- The flags of an addition (R260 to R265). -/
def Sum8.addFlags (r : Sum8) : Flags where
  zf := decide (r.res = 0)
  nf := false
  hf := r.h
  cf := r.c

/-- The flags of a subtraction (R266 to R271, R281 to R283). -/
def Sum8.subFlags (r : Sum8) : Flags where
  zf := decide (r.res = 0)
  nf := true
  hf := r.h
  cf := r.c

/-- The flags of a logic operation (R256); `h` is 1 for `AND` alone. -/
def logicFlags (res : Byte) (h : Bool) : Flags where
  zf := decide (res = 0)
  nf := false
  hf := h
  cf := false

/-- The new `A` and the new flags of an accumulator operation on `A` and `v` (R257, R260 to R283). `CP` leaves `A`. -/
def aluResult (op : AluOp) (a v : Byte) (f : Flags) : Byte × Flags :=
  match op with
  | .add => ((add8 a v false).res, (add8 a v false).addFlags)
  | .adc => ((add8 a v f.cf).res, (add8 a v f.cf).addFlags)
  | .sub => ((sub8 a v false).res, (sub8 a v false).subFlags)
  | .sbc => ((sub8 a v f.cf).res, (sub8 a v f.cf).subFlags)
  | .and => (a &&& v, logicFlags (a &&& v) true)
  | .xor => (a ^^^ v, logicFlags (a ^^^ v) false)
  | .or => (a ||| v, logicFlags (a ||| v) false)
  | .cp => (a, (sub8 a v false).subFlags)

/-- `INC` of a byte: the result and the flags; `Cf` is not written (R284, R285). -/
def incResult (v : Byte) (f : Flags) : Byte × Flags :=
  let r := add8 v 1 false
  (r.res, { f with zf := decide (r.res = 0), nf := false, hf := r.h })

/-- `DEC` of a byte (R286, R287). -/
def decResult (v : Byte) (f : Flags) : Byte × Flags :=
  let r := sub8 v 1 false
  (r.res, { f with zf := decide (r.res = 0), nf := true, hf := r.h })

/-- The correction of `DAA` is 0x06 in the low digit under this test (R288). -/
def daaLow (a : Byte) (f : Flags) : Bool := f.hf || (!f.nf && decide (a.toNat % 16 > 0x09))

/-- The correction of `DAA` is 0x60 in the high digit, and `Cf` becomes 1, under this test (R288). -/
def daaHigh (a : Byte) (f : Flags) : Bool := f.cf || (!f.nf && decide (a.toNat > 0x99))

/-- `DAA` (R288): the new `A` and the new flags. -/
def daaResult (a : Byte) (f : Flags) : Byte × Flags :=
  let corr : Byte := (if daaLow a f then 0x06 else 0x00) ||| (if daaHigh a f then 0x60 else 0x00)
  let res := if f.nf then a - corr else a + corr
  (res, { zf := decide (res = 0), nf := f.nf, hf := false, cf := daaHigh a f })

/-- `CPL` writes `Nf` and `Hf` (R289). -/
def cplFlags (f : Flags) : Flags := { f with nf := true, hf := true }

/-- `SCF` (R290). -/
def scfFlags (f : Flags) : Flags := { f with nf := false, hf := false, cf := true }

/-- `CCF` (R291). -/
def ccfFlags (f : Flags) : Flags := { f with nf := false, hf := false, cf := !f.cf }

/-- `ADD HL,rp` (spec/43_alu16.md R310): the sum, and `Hf` and `Cf` from bits 11 and 15; `Zf` is not written. -/
def addHlResult (a b : Word) (f : Flags) : Word × Flags :=
  (BitVec.ofNat 16 (a.toNat + b.toNat),
    { f with
      nf := false
      hf := decide (a.toNat % 0x1000 + b.toNat % 0x1000 > 0x0FFF)
      cf := decide (a.toNat + b.toNat > 0xFFFF) })

/-- `addsp(sp, e)` (R314) with the flags `ADD SP,e` and `LD HL,SP+e` write: the signed sum, and `Hf` and `Cf` of the
unsigned addition of the low byte and the raw byte `e`. -/
def addSpResult (sp : Word) (e : Byte) : Word × Flags :=
  (sp + e.signExtend 16,
    { zf := false
      nf := false
      hf := decide (sp.toNat % 0x10 + e.toNat % 0x10 > 0x0F)
      cf := decide (sp.toNat % 0x100 + e.toNat > 0xFF) })

/-- The result of a rotate or shift of `v` with old carry `cf` (spec/44_rotate_shift_bit.md R324 to R339). -/
def rotValue (op : RotOp) (v : Byte) (cf : Bool) : Byte :=
  match op with
  | .rlc => (v <<< 1) ||| (v >>> 7)
  | .rrc => (v >>> 1) ||| (v <<< 7)
  | .rl => (v <<< 1) ||| (if cf then 0x01 else 0x00)
  | .rr => (v >>> 1) ||| (if cf then 0x80 else 0x00)
  | .sla => v <<< 1
  | .sra => (v >>> 1) ||| (v &&& 0x80)
  | .swap => (v <<< 4) ||| (v >>> 4)
  | .srl => v >>> 1

/-- The bit a rotate or shift moves out, its new carry; `SWAP` clears the carry. -/
def rotCarry (op : RotOp) (v : Byte) : Bool :=
  match op with
  | .rlc | .rl | .sla => v.getLsbD 7
  | .rrc | .rr | .sra | .srl => v.getLsbD 0
  | .swap => false

/-- The flags of a secondary-table rotate or shift: `Zf` computed (R324 to R339). -/
def rotFlags (op : RotOp) (v : Byte) (cf : Bool) : Flags where
  zf := decide (rotValue op v cf = 0)
  nf := false
  hf := false
  cf := rotCarry op v

/-- The flags of an accumulator rotate of the primary table: `Zf` cleared (R320 to R323). -/
def accRotFlags (op : RotOp) (v : Byte) : Flags where
  zf := false
  nf := false
  hf := false
  cf := rotCarry op v

/-- The flags of `BIT b,v`: `Zf` is the complement of the bit, `Cf` is not written (R340, R341). -/
def bitFlags (b : Fin 8) (v : Byte) (f : Flags) : Flags :=
  { f with zf := !v.getLsbD b.val, nf := false, hf := true }

/-- `RES b` (R342): `v & (0xFF ^ (1 << b))`. -/
def resBit (b : Fin 8) (v : Byte) : Byte := v &&& (0xFF ^^^ (1#8 <<< b.val))

/-- `SET b` (R344): `v | (1 << b)`. -/
def setBit (b : Fin 8) (v : Byte) : Byte := v ||| (1#8 <<< b.val)

end Sys2Proof.Machine
end

