-- ==== Sys2Proof/Machine/Operands.lean ====
section
/-!
DEFINITION. The operand forms: byte registers, pairs, the flag byte, conditions, displacements and high-page addresses
(spec/00_scope.md R7, spec/10_state.md R20 to R25, spec/30_encoding.md R143 to R146).
-/
namespace Sys2Proof.Machine

/-! ### The flag byte -/

/-- `F`: `Zf Nf Hf Cf` in bits 7 to 4, zero in bits 3 to 0 (R24, R25). -/
def Flags.toByte (f : Flags) : Byte :=
  BitVec.ofBool f.zf ++ BitVec.ofBool f.nf ++ BitVec.ofBool f.hf ++ BitVec.ofBool f.cf ++ 0#4

/-- A write of `F` stores `v & 0xF0` (R24). -/
def Flags.ofByte (v : Byte) : Flags where
  zf := v.getLsbD 7
  nf := v.getLsbD 6
  hf := v.getLsbD 5
  cf := v.getLsbD 4

/-! ### Byte registers -/

/-- `x[i]` (R7). -/
def Regs.get8 (r : Regs) : Reg8 → Byte
  | .b => r.b
  | .c => r.c
  | .d => r.d
  | .e => r.e
  | .h => r.h
  | .l => r.l
  | .a => r.a

/-- `x[i] <- v` (R7). -/
def Regs.set8 (r : Regs) (x : Reg8) (v : Byte) : Regs :=
  match x with
  | .b => { r with b := v }
  | .c => { r with c := v }
  | .d => { r with d := v }
  | .e => { r with e := v }
  | .h => { r with h := v }
  | .l => { r with l := v }
  | .a => { r with a := v }

/-! ### Pairs -/

/-- `HL = H :: L` (R20). -/
def Regs.hl (r : Regs) : Word := pairOf r.h r.l

/-- `BC = B :: C`. -/
def Regs.bc (r : Regs) : Word := pairOf r.b r.c

/-- `DE = D :: E`. -/
def Regs.de (r : Regs) : Word := pairOf r.d r.e

/-- `AF = A :: F`. -/
def Regs.af (r : Regs) : Word := pairOf r.a r.f.toByte

/-- A write of `HL` writes both halves (R7). -/
def Regs.setHl (r : Regs) (v : Word) : Regs := { r with h := hiByte v, l := loByte v }

/-- `rp[i]` (R7, R144). -/
def Regs.getPair (r : Regs) : Pair → Word
  | .bc => r.bc
  | .de => r.de
  | .hl => r.hl
  | .sp => r.sp

/-- `rp[i] <- v`. -/
def Regs.setPair (r : Regs) (p : Pair) (v : Word) : Regs :=
  match p with
  | .bc => { r with b := hiByte v, c := loByte v }
  | .de => { r with d := hiByte v, e := loByte v }
  | .hl => r.setHl v
  | .sp => { r with sp := v }

/-- `rp2[i]` (R7, R144). -/
def Regs.getStack (r : Regs) : StackPair → Word
  | .bc => r.bc
  | .de => r.de
  | .hl => r.hl
  | .af => r.af

/-- `rp2[i] <- v`; a write to `AF` drops the low four bits of `F` (R24). -/
def Regs.setStack (r : Regs) (p : StackPair) (v : Word) : Regs :=
  match p with
  | .bc => { r with b := hiByte v, c := loByte v }
  | .de => { r with d := hiByte v, e := loByte v }
  | .hl => r.setHl v
  | .af => { r with a := hiByte v, f := .ofByte (loByte v) }

/-! ### Conditions, displacements, addresses -/

/-- `cond(cc)` (R146). -/
def Flags.holds (f : Flags) : Cond → Bool
  | .nz => !f.zf
  | .z => f.zf
  | .nc => !f.cf
  | .c => f.cf

/-- `sext_16(e)` (R6). -/
def sext16 (e : Byte) : Word := e.signExtend 16

/-- The high-page address `0xFF00 + n` (R145). -/
def highPage (n : Byte) : Word := pairOf 0xFF n

/-- The restart target `t = y * 8` (R145, R370). -/
def rstTarget (y : Fin 8) : Word := BitVec.ofNat 16 (y.val * 8)

/-! ### State setters -/

/-- The state with another register file. -/
def State.withRegs (s : State) (r : Regs) : State := { s with regs := r }

/-- The state with another `PC`. -/
def State.setPc (s : State) (v : Word) : State := { s with regs := { s.regs with pc := v } }

/-- The state with another `SP`. -/
def State.setSp (s : State) (v : Word) : State := { s with regs := { s.regs with sp := v } }

/-- The state with another `A`. -/
def State.setA (s : State) (v : Byte) : State := { s with regs := { s.regs with a := v } }

/-- The state with other flags. -/
def State.setFlags (s : State) (f : Flags) : State := { s with regs := { s.regs with f := f } }

/-- The state with another byte register. -/
def State.setReg8 (s : State) (x : Reg8) (v : Byte) : State := { s with regs := s.regs.set8 x v }

/-- The state with another pair. -/
def State.setPair (s : State) (p : Pair) (v : Word) : State := { s with regs := s.regs.setPair p v }

/-- The state with another `HL`. -/
def State.setHl (s : State) (v : Word) : State := { s with regs := s.regs.setHl v }

end Sys2Proof.Machine
end

