-- ==== Sys2Proof/Machine/Ops.lean ====
section
/-!
DEFINITION. The named operations over memory and registers that the meanings share: fetching, the stack, reading and writing
the byte at an address, taking an interrupt (the one exception with an entry), returning from it, recording a decode fault,
and completing an instruction with its cost (spec/00_scope.md R8 to R11, spec/60_exceptions.md R400 to R425).
-/
namespace Sys2Proof.Machine

/-! ### Completing an instruction -/

/-- The state with the cycle count an instruction or step returns. -/
def State.withCost (s : State) (n : Nat) : State := { s with cost := n }

/-- An instruction that ends in `s` and costs `n` cycles (R11, R12). -/
def done (n : Nat) (s : State) : Result := .next (s.withCost n)

/-! ### Memory accesses with their effects in order -/

/-- The low byte of `MemRead(a, 2)` is at `a`, the high byte at `u16(a + 1)` (R8, spec/20_memory.md R110). -/
def State.read16 (s : State) (a : Word) : Word := pairOf (s.read8 (a + 1)) (s.read8 a)

/-- The effects of the two byte reads of `MemRead(a, 2)`, the lower address first. -/
def State.touch16 (s : State) (a : Word) : State := (s.touch8 a).touch8 (a + 1)

/-- `MemWrite(a, 2, v)`: the low byte at `a`, then the high byte at `u16(a + 1)` (R8). -/
def State.write16 (s : State) (a : Word) (v : Word) : State :=
  (s.write8 a (loByte v)).write8 (a + 1) (hiByte v)

/-! ### Fetching (R9, R404) -/

/-- `Fetch8()`, the state after it: the read's effect, and `PC` advanced unless the one-shot `halt_bug` is set, which it
then clears. -/
def State.fetched (s : State) : State :=
  let t := s.touch8 s.regs.pc
  if t.haltBug then { t with haltBug := false } else t.setPc (t.regs.pc + 1)

/-- `Fetch8()`, the byte it returns. -/
def State.fetchByte (s : State) : Byte := s.read8 s.regs.pc

/-- Fetch one instruction: the opcode byte, then the operand bytes its format asks for, in address order (R9,
spec/30_encoding.md R141, R145). For an unmapped byte `PC` and `halt_bug` are put back (R400 line 9). -/
def State.fetchInstr (s : State) : Instr × State :=
  match primary s.fetchByte with
  | .op i => (i, s.fetched)
  | .opN f => (f s.fetched.fetchByte, s.fetched.fetched)
  | .opE f => (f s.fetched.fetchByte, s.fetched.fetched)
  | .opNN f => (f (pairOf s.fetched.fetched.fetchByte s.fetched.fetchByte), s.fetched.fetched.fetched)
  | .opX f => (f s.fetched.fetchByte, s.fetched.fetched)
  | .cbOp => (secondary s.fetched.fetchByte, s.fetched.fetched)
  | .illegal i => (i, s.touch8 s.regs.pc)

/-! ### The stack (R9) -/

/-- `Push16(v)`: the high byte at `SP - 1`, then the low byte at `SP - 2`. -/
def State.push16 (s : State) (v : Word) : State :=
  let t := (s.setSp (s.regs.sp - 1)).write8 (s.regs.sp - 1) (hiByte v)
  (t.setSp (s.regs.sp - 2)).write8 (s.regs.sp - 2) (loByte v)

/-- `Pop16()`, the word it returns: the low byte at `SP`, the high byte at `SP + 1`. -/
def State.popValue (s : State) : Word := s.read16 s.regs.sp

/-- `Pop16()`, the state after it. -/
def State.popped (s : State) : State := (s.touch16 s.regs.sp).setSp (s.regs.sp + 2)

/-! ### Exceptions -/

/-- TAKING AN INTERRUPT, `Service(pend)` (R423, R424): the serviced bit and `IME` are cleared, the wait state ends, `PC` is
pushed, and `PC` becomes the source's vector; nothing else is saved. -/
def State.service (s : State) (i : IntSource) : State :=
  let t := { s with iflag := s.iflag &&& ~~~i.bit, ime := false, halted := false }
  (t.push16 t.regs.pc).setPc i.vector

/-- `PC <- Pop16()`, the common part of `RET` and `RETI`. -/
def State.returnFrom (s : State) : State := s.popped.setPc s.popValue

/-- RETURNING FROM AN INTERRUPT, `RETI` (spec/45_control_transfer.md R369): `PC <- Pop16(); IME <- 1` at once. -/
def State.returnFromInterrupt (s : State) : State := { s.returnFrom with ime := true }

/-- `FAULT_COST` (spec/00_scope.md R5). -/
def faultCost : Nat := 0

/-- The outcome `Fault(pc, op)` of a step that ends in `s` (R10, R410), at the cost `FAULT_COST`. -/
def reportFault (pc : Word) (op : Byte) (s : State) : Result := .fault (.decodeFault pc op (s.withCost faultCost))

/-- `raise DecodeFault(pc, op)` (R10, R410): the fault is recorded with the address and the byte, nothing else changes, and the
step ends with the outcome Fault. -/
def State.raiseDecodeFault (s : State) (op : Byte) : Result :=
  reportFault s.regs.pc op { s with fault := some (s.regs.pc, op) }

end Sys2Proof.Machine
end

