-- ==== Sys2Proof/Machine/Alu16.lean ====
section
/-!
DEFINITION. 16-bit arithmetic (spec/43_alu16.md R310 to R314).
-/
namespace Sys2Proof.Machine

/-! ### Shared operations -/

/-- `ADD HL,rp` (R310). -/
def State.addHl (s : State) (p : Pair) : State :=
  (s.setHl (addHlResult s.regs.hl (s.regs.getPair p) s.regs.f).1).setFlags
    (addHlResult s.regs.hl (s.regs.getPair p) s.regs.f).2

/-- `INC rp` (R311). -/
def State.incPair (s : State) (p : Pair) : State := s.setPair p (s.regs.getPair p + 1)

/-- `DEC rp` (R312). -/
def State.decPair (s : State) (p : Pair) : State := s.setPair p (s.regs.getPair p - 1)

/-- `ADD SP,e` (R313). -/
def State.addSp (s : State) (e : Byte) : State :=
  (s.setSp (addSpResult s.regs.sp e).1).setFlags (addSpResult s.regs.sp e).2

/-! ### The meanings, one per row of the opcode table -/

/-- `INC BC` (0x03, R311). -/
def execInc_BC (s : State) : Result := done 8 (s.incPair .bc)

/-- `ADD HL,BC` (0x09, R310). -/
def execAdd_HL_BC (s : State) : Result := done 8 (s.addHl .bc)

/-- `DEC BC` (0x0B, R312). -/
def execDec_BC (s : State) : Result := done 8 (s.decPair .bc)

/-- `INC DE` (0x13, R311). -/
def execInc_DE (s : State) : Result := done 8 (s.incPair .de)

/-- `ADD HL,DE` (0x19, R310). -/
def execAdd_HL_DE (s : State) : Result := done 8 (s.addHl .de)

/-- `DEC DE` (0x1B, R312). -/
def execDec_DE (s : State) : Result := done 8 (s.decPair .de)

/-- `INC HL` (0x23, R311). -/
def execInc_HL (s : State) : Result := done 8 (s.incPair .hl)

/-- `ADD HL,HL` (0x29, R310). -/
def execAdd_HL_HL (s : State) : Result := done 8 (s.addHl .hl)

/-- `DEC HL` (0x2B, R312). -/
def execDec_HL (s : State) : Result := done 8 (s.decPair .hl)

/-- `INC SP` (0x33, R311). -/
def execInc_SP (s : State) : Result := done 8 (s.incPair .sp)

/-- `ADD HL,SP` (0x39, R310). -/
def execAdd_HL_SP (s : State) : Result := done 8 (s.addHl .sp)

/-- `DEC SP` (0x3B, R312). -/
def execDec_SP (s : State) : Result := done 8 (s.decPair .sp)

/-- `ADD SP,e` (0xE8, R313). -/
def execAdd_SP_e (e : Byte) (s : State) : Result := done 16 (s.addSp e)

end Sys2Proof.Machine
end

