-- ==== Sys2Proof/Machine/Alu8.lean ====
section
/-!
DEFINITION. 8-bit arithmetic and logic (spec/42_alu8.md R254 to R291).
-/
namespace Sys2Proof.Machine

/-! ### Shared operations -/

/-- An accumulator operation with second operand `v`: only `A` and the flags are written (R257). -/
def State.alu (s : State) (op : AluOp) (v : Byte) : State :=
  s.withRegs
    { s.regs with a := (aluResult op s.regs.a v s.regs.f).1, f := (aluResult op s.regs.a v s.regs.f).2 }

/-- The register form. -/
def State.aluReg (s : State) (op : AluOp) (r : Reg8) : State := s.alu op (s.regs.get8 r)

/-- The `(HL)` form. -/
def State.aluMem (s : State) (op : AluOp) : State := (s.touch8 s.regs.hl).alu op (s.read8 s.regs.hl)

/-- `INC r` (R284). -/
def State.incReg (s : State) (r : Reg8) : State :=
  (s.setReg8 r (incResult (s.regs.get8 r) s.regs.f).1).setFlags (incResult (s.regs.get8 r) s.regs.f).2

/-- `DEC r` (R286). -/
def State.decReg (s : State) (r : Reg8) : State :=
  (s.setReg8 r (decResult (s.regs.get8 r) s.regs.f).1).setFlags (decResult (s.regs.get8 r) s.regs.f).2

/-- Read the byte at `HL`, write back `v`, set the flags `f` (R285, R287, R325 to R339): one read, then one write. -/
def State.modifyHl (s : State) (v : Byte) (f : Flags) : State :=
  ((s.touch8 s.regs.hl).write8 s.regs.hl v).setFlags f

/-- `INC (HL)`: the flags come from the value read (R285). -/
def State.incMem (s : State) : State :=
  s.modifyHl (incResult (s.read8 s.regs.hl) s.regs.f).1 (incResult (s.read8 s.regs.hl) s.regs.f).2

/-- `DEC (HL)` (R287). -/
def State.decMem (s : State) : State :=
  s.modifyHl (decResult (s.read8 s.regs.hl) s.regs.f).1 (decResult (s.read8 s.regs.hl) s.regs.f).2

/-- `DAA` (R288). -/
def State.daa (s : State) : State :=
  s.withRegs { s.regs with a := (daaResult s.regs.a s.regs.f).1, f := (daaResult s.regs.a s.regs.f).2 }

/-- `CPL` (R289). -/
def State.cpl (s : State) : State := s.withRegs { s.regs with a := s.regs.a ^^^ 0xFF, f := cplFlags s.regs.f }

/-- `SCF` (R290). -/
def State.scf (s : State) : State := s.setFlags (scfFlags s.regs.f)

/-- `CCF` (R291). -/
def State.ccf (s : State) : State := s.setFlags (ccfFlags s.regs.f)

/-! ### The meanings, one per row of the opcode table -/

/-- `INC B` (0x04, R284). -/
def execInc_B (s : State) : Result := done 4 (s.incReg .b)

/-- `DEC B` (0x05, R286). -/
def execDec_B (s : State) : Result := done 4 (s.decReg .b)

/-- `INC C` (0x0C, R284). -/
def execInc_C (s : State) : Result := done 4 (s.incReg .c)

/-- `DEC C` (0x0D, R286). -/
def execDec_C (s : State) : Result := done 4 (s.decReg .c)

/-- `INC D` (0x14, R284). -/
def execInc_D (s : State) : Result := done 4 (s.incReg .d)

/-- `DEC D` (0x15, R286). -/
def execDec_D (s : State) : Result := done 4 (s.decReg .d)

/-- `INC E` (0x1C, R284). -/
def execInc_E (s : State) : Result := done 4 (s.incReg .e)

/-- `DEC E` (0x1D, R286). -/
def execDec_E (s : State) : Result := done 4 (s.decReg .e)

/-- `INC H` (0x24, R284). -/
def execInc_H (s : State) : Result := done 4 (s.incReg .h)

/-- `DEC H` (0x25, R286). -/
def execDec_H (s : State) : Result := done 4 (s.decReg .h)

/-- `DAA` (0x27, R288). -/
def execDaa (s : State) : Result := done 4 s.daa

/-- `INC L` (0x2C, R284). -/
def execInc_L (s : State) : Result := done 4 (s.incReg .l)

/-- `DEC L` (0x2D, R286). -/
def execDec_L (s : State) : Result := done 4 (s.decReg .l)

/-- `CPL` (0x2F, R289). -/
def execCpl (s : State) : Result := done 4 s.cpl

/-- `INC (HL)` (0x34, R285). -/
def execInc_mHL (s : State) : Result := done 12 s.incMem

/-- `DEC (HL)` (0x35, R287). -/
def execDec_mHL (s : State) : Result := done 12 s.decMem

/-- `SCF` (0x37, R290). -/
def execScf (s : State) : Result := done 4 s.scf

/-- `INC A` (0x3C, R284). -/
def execInc_A (s : State) : Result := done 4 (s.incReg .a)

/-- `DEC A` (0x3D, R286). -/
def execDec_A (s : State) : Result := done 4 (s.decReg .a)

/-- `CCF` (0x3F, R291). -/
def execCcf (s : State) : Result := done 4 s.ccf

/-- `ADD A,B` (0x80, R260). -/
def execAdd_A_B (s : State) : Result := done 4 (s.aluReg .add .b)

/-- `ADD A,C` (0x81, R260). -/
def execAdd_A_C (s : State) : Result := done 4 (s.aluReg .add .c)

/-- `ADD A,D` (0x82, R260). -/
def execAdd_A_D (s : State) : Result := done 4 (s.aluReg .add .d)

/-- `ADD A,E` (0x83, R260). -/
def execAdd_A_E (s : State) : Result := done 4 (s.aluReg .add .e)

/-- `ADD A,H` (0x84, R260). -/
def execAdd_A_H (s : State) : Result := done 4 (s.aluReg .add .h)

/-- `ADD A,L` (0x85, R260). -/
def execAdd_A_L (s : State) : Result := done 4 (s.aluReg .add .l)

/-- `ADD A,(HL)` (0x86, R261). -/
def execAdd_A_mHL (s : State) : Result := done 8 (s.aluMem .add)

/-- `ADD A,A` (0x87, R260). -/
def execAdd_A_A (s : State) : Result := done 4 (s.aluReg .add .a)

/-- `ADC A,B` (0x88, R263). -/
def execAdc_A_B (s : State) : Result := done 4 (s.aluReg .adc .b)

/-- `ADC A,C` (0x89, R263). -/
def execAdc_A_C (s : State) : Result := done 4 (s.aluReg .adc .c)

/-- `ADC A,D` (0x8A, R263). -/
def execAdc_A_D (s : State) : Result := done 4 (s.aluReg .adc .d)

/-- `ADC A,E` (0x8B, R263). -/
def execAdc_A_E (s : State) : Result := done 4 (s.aluReg .adc .e)

/-- `ADC A,H` (0x8C, R263). -/
def execAdc_A_H (s : State) : Result := done 4 (s.aluReg .adc .h)

/-- `ADC A,L` (0x8D, R263). -/
def execAdc_A_L (s : State) : Result := done 4 (s.aluReg .adc .l)

/-- `ADC A,(HL)` (0x8E, R264). -/
def execAdc_A_mHL (s : State) : Result := done 8 (s.aluMem .adc)

/-- `ADC A,A` (0x8F, R263). -/
def execAdc_A_A (s : State) : Result := done 4 (s.aluReg .adc .a)

/-- `SUB B` (0x90, R266). -/
def execSub_B (s : State) : Result := done 4 (s.aluReg .sub .b)

/-- `SUB C` (0x91, R266). -/
def execSub_C (s : State) : Result := done 4 (s.aluReg .sub .c)

/-- `SUB D` (0x92, R266). -/
def execSub_D (s : State) : Result := done 4 (s.aluReg .sub .d)

/-- `SUB E` (0x93, R266). -/
def execSub_E (s : State) : Result := done 4 (s.aluReg .sub .e)

/-- `SUB H` (0x94, R266). -/
def execSub_H (s : State) : Result := done 4 (s.aluReg .sub .h)

/-- `SUB L` (0x95, R266). -/
def execSub_L (s : State) : Result := done 4 (s.aluReg .sub .l)

/-- `SUB (HL)` (0x96, R267). -/
def execSub_mHL (s : State) : Result := done 8 (s.aluMem .sub)

/-- `SUB A` (0x97, R266). -/
def execSub_A (s : State) : Result := done 4 (s.aluReg .sub .a)

/-- `SBC A,B` (0x98, R269). -/
def execSbc_A_B (s : State) : Result := done 4 (s.aluReg .sbc .b)

/-- `SBC A,C` (0x99, R269). -/
def execSbc_A_C (s : State) : Result := done 4 (s.aluReg .sbc .c)

/-- `SBC A,D` (0x9A, R269). -/
def execSbc_A_D (s : State) : Result := done 4 (s.aluReg .sbc .d)

/-- `SBC A,E` (0x9B, R269). -/
def execSbc_A_E (s : State) : Result := done 4 (s.aluReg .sbc .e)

/-- `SBC A,H` (0x9C, R269). -/
def execSbc_A_H (s : State) : Result := done 4 (s.aluReg .sbc .h)

/-- `SBC A,L` (0x9D, R269). -/
def execSbc_A_L (s : State) : Result := done 4 (s.aluReg .sbc .l)

/-- `SBC A,(HL)` (0x9E, R270). -/
def execSbc_A_mHL (s : State) : Result := done 8 (s.aluMem .sbc)

/-- `SBC A,A` (0x9F, R269). -/
def execSbc_A_A (s : State) : Result := done 4 (s.aluReg .sbc .a)

/-- `AND B` (0xA0, R272). -/
def execAnd_B (s : State) : Result := done 4 (s.aluReg .and .b)

/-- `AND C` (0xA1, R272). -/
def execAnd_C (s : State) : Result := done 4 (s.aluReg .and .c)

/-- `AND D` (0xA2, R272). -/
def execAnd_D (s : State) : Result := done 4 (s.aluReg .and .d)

/-- `AND E` (0xA3, R272). -/
def execAnd_E (s : State) : Result := done 4 (s.aluReg .and .e)

/-- `AND H` (0xA4, R272). -/
def execAnd_H (s : State) : Result := done 4 (s.aluReg .and .h)

/-- `AND L` (0xA5, R272). -/
def execAnd_L (s : State) : Result := done 4 (s.aluReg .and .l)

/-- `AND (HL)` (0xA6, R273). -/
def execAnd_mHL (s : State) : Result := done 8 (s.aluMem .and)

/-- `AND A` (0xA7, R272). -/
def execAnd_A (s : State) : Result := done 4 (s.aluReg .and .a)

/-- `XOR B` (0xA8, R275). -/
def execXor_B (s : State) : Result := done 4 (s.aluReg .xor .b)

/-- `XOR C` (0xA9, R275). -/
def execXor_C (s : State) : Result := done 4 (s.aluReg .xor .c)

/-- `XOR D` (0xAA, R275). -/
def execXor_D (s : State) : Result := done 4 (s.aluReg .xor .d)

/-- `XOR E` (0xAB, R275). -/
def execXor_E (s : State) : Result := done 4 (s.aluReg .xor .e)

/-- `XOR H` (0xAC, R275). -/
def execXor_H (s : State) : Result := done 4 (s.aluReg .xor .h)

/-- `XOR L` (0xAD, R275). -/
def execXor_L (s : State) : Result := done 4 (s.aluReg .xor .l)

/-- `XOR (HL)` (0xAE, R276). -/
def execXor_mHL (s : State) : Result := done 8 (s.aluMem .xor)

/-- `XOR A` (0xAF, R275). -/
def execXor_A (s : State) : Result := done 4 (s.aluReg .xor .a)

/-- `OR B` (0xB0, R278). -/
def execOr_B (s : State) : Result := done 4 (s.aluReg .or .b)

/-- `OR C` (0xB1, R278). -/
def execOr_C (s : State) : Result := done 4 (s.aluReg .or .c)

/-- `OR D` (0xB2, R278). -/
def execOr_D (s : State) : Result := done 4 (s.aluReg .or .d)

/-- `OR E` (0xB3, R278). -/
def execOr_E (s : State) : Result := done 4 (s.aluReg .or .e)

/-- `OR H` (0xB4, R278). -/
def execOr_H (s : State) : Result := done 4 (s.aluReg .or .h)

/-- `OR L` (0xB5, R278). -/
def execOr_L (s : State) : Result := done 4 (s.aluReg .or .l)

/-- `OR (HL)` (0xB6, R279). -/
def execOr_mHL (s : State) : Result := done 8 (s.aluMem .or)

/-- `OR A` (0xB7, R278). -/
def execOr_A (s : State) : Result := done 4 (s.aluReg .or .a)

/-- `CP B` (0xB8, R281). -/
def execCp_B (s : State) : Result := done 4 (s.aluReg .cp .b)

/-- `CP C` (0xB9, R281). -/
def execCp_C (s : State) : Result := done 4 (s.aluReg .cp .c)

/-- `CP D` (0xBA, R281). -/
def execCp_D (s : State) : Result := done 4 (s.aluReg .cp .d)

/-- `CP E` (0xBB, R281). -/
def execCp_E (s : State) : Result := done 4 (s.aluReg .cp .e)

/-- `CP H` (0xBC, R281). -/
def execCp_H (s : State) : Result := done 4 (s.aluReg .cp .h)

/-- `CP L` (0xBD, R281). -/
def execCp_L (s : State) : Result := done 4 (s.aluReg .cp .l)

/-- `CP (HL)` (0xBE, R282). -/
def execCp_mHL (s : State) : Result := done 8 (s.aluMem .cp)

/-- `CP A` (0xBF, R281). -/
def execCp_A (s : State) : Result := done 4 (s.aluReg .cp .a)

/-- `ADD A,n` (0xC6, R262). -/
def execAdd_A_n (n : Byte) (s : State) : Result := done 8 (s.alu .add n)

/-- `ADC A,n` (0xCE, R265). -/
def execAdc_A_n (n : Byte) (s : State) : Result := done 8 (s.alu .adc n)

/-- `SUB n` (0xD6, R268). -/
def execSub_n (n : Byte) (s : State) : Result := done 8 (s.alu .sub n)

/-- `SBC A,n` (0xDE, R271). -/
def execSbc_A_n (n : Byte) (s : State) : Result := done 8 (s.alu .sbc n)

/-- `AND n` (0xE6, R274). -/
def execAnd_n (n : Byte) (s : State) : Result := done 8 (s.alu .and n)

/-- `XOR n` (0xEE, R277). -/
def execXor_n (n : Byte) (s : State) : Result := done 8 (s.alu .xor n)

/-- `OR n` (0xF6, R280). -/
def execOr_n (n : Byte) (s : State) : Result := done 8 (s.alu .or n)

/-- `CP n` (0xFE, R283). -/
def execCp_n (n : Byte) (s : State) : Result := done 8 (s.alu .cp n)

end Sys2Proof.Machine
end

