-- ==== Sys2Proof/Machine/Bit.lean ====
section
/-!
DEFINITION. `BIT`, `RES` and `SET` (spec/44_rotate_shift_bit.md R340 to R345).
-/
namespace Sys2Proof.Machine

/-! ### Shared operations -/

/-- `BIT b,r` (R340). -/
def State.bitReg (s : State) (b : Fin 8) (r : Reg8) : State := s.setFlags (bitFlags b (s.regs.get8 r) s.regs.f)

/-- `BIT b,(HL)`: one read, nothing written but flags (R341). -/
def State.bitMem (s : State) (b : Fin 8) : State :=
  (s.touch8 s.regs.hl).setFlags (bitFlags b (s.read8 s.regs.hl) s.regs.f)

/-- `RES b,r` (R342). -/
def State.resReg (s : State) (b : Fin 8) (r : Reg8) : State := s.setReg8 r (resBit b (s.regs.get8 r))

/-- `RES b,(HL)`: the write always happens (R343). -/
def State.resMem (s : State) (b : Fin 8) : State :=
  (s.touch8 s.regs.hl).write8 s.regs.hl (resBit b (s.read8 s.regs.hl))

/-- `SET b,r` (R344). -/
def State.setReg (s : State) (b : Fin 8) (r : Reg8) : State := s.setReg8 r (setBit b (s.regs.get8 r))

/-- `SET b,(HL)` (R345). -/
def State.setMem (s : State) (b : Fin 8) : State :=
  (s.touch8 s.regs.hl).write8 s.regs.hl (setBit b (s.read8 s.regs.hl))

/-! ### The meanings, one per row of the opcode table -/

/-- `BIT 0,B` (0xCB 0x40, R340). -/
def execBit_0_B (s : State) : Result := done 8 (s.bitReg 0 .b)

/-- `BIT 0,C` (0xCB 0x41, R340). -/
def execBit_0_C (s : State) : Result := done 8 (s.bitReg 0 .c)

/-- `BIT 0,D` (0xCB 0x42, R340). -/
def execBit_0_D (s : State) : Result := done 8 (s.bitReg 0 .d)

/-- `BIT 0,E` (0xCB 0x43, R340). -/
def execBit_0_E (s : State) : Result := done 8 (s.bitReg 0 .e)

/-- `BIT 0,H` (0xCB 0x44, R340). -/
def execBit_0_H (s : State) : Result := done 8 (s.bitReg 0 .h)

/-- `BIT 0,L` (0xCB 0x45, R340). -/
def execBit_0_L (s : State) : Result := done 8 (s.bitReg 0 .l)

/-- `BIT 0,(HL)` (0xCB 0x46, R341). -/
def execBit_0_mHL (s : State) : Result := done 12 (s.bitMem 0)

/-- `BIT 0,A` (0xCB 0x47, R340). -/
def execBit_0_A (s : State) : Result := done 8 (s.bitReg 0 .a)

/-- `BIT 1,B` (0xCB 0x48, R340). -/
def execBit_1_B (s : State) : Result := done 8 (s.bitReg 1 .b)

/-- `BIT 1,C` (0xCB 0x49, R340). -/
def execBit_1_C (s : State) : Result := done 8 (s.bitReg 1 .c)

/-- `BIT 1,D` (0xCB 0x4A, R340). -/
def execBit_1_D (s : State) : Result := done 8 (s.bitReg 1 .d)

/-- `BIT 1,E` (0xCB 0x4B, R340). -/
def execBit_1_E (s : State) : Result := done 8 (s.bitReg 1 .e)

/-- `BIT 1,H` (0xCB 0x4C, R340). -/
def execBit_1_H (s : State) : Result := done 8 (s.bitReg 1 .h)

/-- `BIT 1,L` (0xCB 0x4D, R340). -/
def execBit_1_L (s : State) : Result := done 8 (s.bitReg 1 .l)

/-- `BIT 1,(HL)` (0xCB 0x4E, R341). -/
def execBit_1_mHL (s : State) : Result := done 12 (s.bitMem 1)

/-- `BIT 1,A` (0xCB 0x4F, R340). -/
def execBit_1_A (s : State) : Result := done 8 (s.bitReg 1 .a)

/-- `BIT 2,B` (0xCB 0x50, R340). -/
def execBit_2_B (s : State) : Result := done 8 (s.bitReg 2 .b)

/-- `BIT 2,C` (0xCB 0x51, R340). -/
def execBit_2_C (s : State) : Result := done 8 (s.bitReg 2 .c)

/-- `BIT 2,D` (0xCB 0x52, R340). -/
def execBit_2_D (s : State) : Result := done 8 (s.bitReg 2 .d)

/-- `BIT 2,E` (0xCB 0x53, R340). -/
def execBit_2_E (s : State) : Result := done 8 (s.bitReg 2 .e)

/-- `BIT 2,H` (0xCB 0x54, R340). -/
def execBit_2_H (s : State) : Result := done 8 (s.bitReg 2 .h)

/-- `BIT 2,L` (0xCB 0x55, R340). -/
def execBit_2_L (s : State) : Result := done 8 (s.bitReg 2 .l)

/-- `BIT 2,(HL)` (0xCB 0x56, R341). -/
def execBit_2_mHL (s : State) : Result := done 12 (s.bitMem 2)

/-- `BIT 2,A` (0xCB 0x57, R340). -/
def execBit_2_A (s : State) : Result := done 8 (s.bitReg 2 .a)

/-- `BIT 3,B` (0xCB 0x58, R340). -/
def execBit_3_B (s : State) : Result := done 8 (s.bitReg 3 .b)

/-- `BIT 3,C` (0xCB 0x59, R340). -/
def execBit_3_C (s : State) : Result := done 8 (s.bitReg 3 .c)

/-- `BIT 3,D` (0xCB 0x5A, R340). -/
def execBit_3_D (s : State) : Result := done 8 (s.bitReg 3 .d)

/-- `BIT 3,E` (0xCB 0x5B, R340). -/
def execBit_3_E (s : State) : Result := done 8 (s.bitReg 3 .e)

/-- `BIT 3,H` (0xCB 0x5C, R340). -/
def execBit_3_H (s : State) : Result := done 8 (s.bitReg 3 .h)

/-- `BIT 3,L` (0xCB 0x5D, R340). -/
def execBit_3_L (s : State) : Result := done 8 (s.bitReg 3 .l)

/-- `BIT 3,(HL)` (0xCB 0x5E, R341). -/
def execBit_3_mHL (s : State) : Result := done 12 (s.bitMem 3)

/-- `BIT 3,A` (0xCB 0x5F, R340). -/
def execBit_3_A (s : State) : Result := done 8 (s.bitReg 3 .a)

/-- `BIT 4,B` (0xCB 0x60, R340). -/
def execBit_4_B (s : State) : Result := done 8 (s.bitReg 4 .b)

/-- `BIT 4,C` (0xCB 0x61, R340). -/
def execBit_4_C (s : State) : Result := done 8 (s.bitReg 4 .c)

/-- `BIT 4,D` (0xCB 0x62, R340). -/
def execBit_4_D (s : State) : Result := done 8 (s.bitReg 4 .d)

/-- `BIT 4,E` (0xCB 0x63, R340). -/
def execBit_4_E (s : State) : Result := done 8 (s.bitReg 4 .e)

/-- `BIT 4,H` (0xCB 0x64, R340). -/
def execBit_4_H (s : State) : Result := done 8 (s.bitReg 4 .h)

/-- `BIT 4,L` (0xCB 0x65, R340). -/
def execBit_4_L (s : State) : Result := done 8 (s.bitReg 4 .l)

/-- `BIT 4,(HL)` (0xCB 0x66, R341). -/
def execBit_4_mHL (s : State) : Result := done 12 (s.bitMem 4)

/-- `BIT 4,A` (0xCB 0x67, R340). -/
def execBit_4_A (s : State) : Result := done 8 (s.bitReg 4 .a)

/-- `BIT 5,B` (0xCB 0x68, R340). -/
def execBit_5_B (s : State) : Result := done 8 (s.bitReg 5 .b)

/-- `BIT 5,C` (0xCB 0x69, R340). -/
def execBit_5_C (s : State) : Result := done 8 (s.bitReg 5 .c)

/-- `BIT 5,D` (0xCB 0x6A, R340). -/
def execBit_5_D (s : State) : Result := done 8 (s.bitReg 5 .d)

/-- `BIT 5,E` (0xCB 0x6B, R340). -/
def execBit_5_E (s : State) : Result := done 8 (s.bitReg 5 .e)

/-- `BIT 5,H` (0xCB 0x6C, R340). -/
def execBit_5_H (s : State) : Result := done 8 (s.bitReg 5 .h)

/-- `BIT 5,L` (0xCB 0x6D, R340). -/
def execBit_5_L (s : State) : Result := done 8 (s.bitReg 5 .l)

/-- `BIT 5,(HL)` (0xCB 0x6E, R341). -/
def execBit_5_mHL (s : State) : Result := done 12 (s.bitMem 5)

/-- `BIT 5,A` (0xCB 0x6F, R340). -/
def execBit_5_A (s : State) : Result := done 8 (s.bitReg 5 .a)

/-- `BIT 6,B` (0xCB 0x70, R340). -/
def execBit_6_B (s : State) : Result := done 8 (s.bitReg 6 .b)

/-- `BIT 6,C` (0xCB 0x71, R340). -/
def execBit_6_C (s : State) : Result := done 8 (s.bitReg 6 .c)

/-- `BIT 6,D` (0xCB 0x72, R340). -/
def execBit_6_D (s : State) : Result := done 8 (s.bitReg 6 .d)

/-- `BIT 6,E` (0xCB 0x73, R340). -/
def execBit_6_E (s : State) : Result := done 8 (s.bitReg 6 .e)

/-- `BIT 6,H` (0xCB 0x74, R340). -/
def execBit_6_H (s : State) : Result := done 8 (s.bitReg 6 .h)

/-- `BIT 6,L` (0xCB 0x75, R340). -/
def execBit_6_L (s : State) : Result := done 8 (s.bitReg 6 .l)

/-- `BIT 6,(HL)` (0xCB 0x76, R341). -/
def execBit_6_mHL (s : State) : Result := done 12 (s.bitMem 6)

/-- `BIT 6,A` (0xCB 0x77, R340). -/
def execBit_6_A (s : State) : Result := done 8 (s.bitReg 6 .a)

/-- `BIT 7,B` (0xCB 0x78, R340). -/
def execBit_7_B (s : State) : Result := done 8 (s.bitReg 7 .b)

/-- `BIT 7,C` (0xCB 0x79, R340). -/
def execBit_7_C (s : State) : Result := done 8 (s.bitReg 7 .c)

/-- `BIT 7,D` (0xCB 0x7A, R340). -/
def execBit_7_D (s : State) : Result := done 8 (s.bitReg 7 .d)

/-- `BIT 7,E` (0xCB 0x7B, R340). -/
def execBit_7_E (s : State) : Result := done 8 (s.bitReg 7 .e)

/-- `BIT 7,H` (0xCB 0x7C, R340). -/
def execBit_7_H (s : State) : Result := done 8 (s.bitReg 7 .h)

/-- `BIT 7,L` (0xCB 0x7D, R340). -/
def execBit_7_L (s : State) : Result := done 8 (s.bitReg 7 .l)

/-- `BIT 7,(HL)` (0xCB 0x7E, R341). -/
def execBit_7_mHL (s : State) : Result := done 12 (s.bitMem 7)

/-- `BIT 7,A` (0xCB 0x7F, R340). -/
def execBit_7_A (s : State) : Result := done 8 (s.bitReg 7 .a)

/-- `RES 0,B` (0xCB 0x80, R342). -/
def execRes_0_B (s : State) : Result := done 8 (s.resReg 0 .b)

/-- `RES 0,C` (0xCB 0x81, R342). -/
def execRes_0_C (s : State) : Result := done 8 (s.resReg 0 .c)

/-- `RES 0,D` (0xCB 0x82, R342). -/
def execRes_0_D (s : State) : Result := done 8 (s.resReg 0 .d)

/-- `RES 0,E` (0xCB 0x83, R342). -/
def execRes_0_E (s : State) : Result := done 8 (s.resReg 0 .e)

/-- `RES 0,H` (0xCB 0x84, R342). -/
def execRes_0_H (s : State) : Result := done 8 (s.resReg 0 .h)

/-- `RES 0,L` (0xCB 0x85, R342). -/
def execRes_0_L (s : State) : Result := done 8 (s.resReg 0 .l)

/-- `RES 0,(HL)` (0xCB 0x86, R343). -/
def execRes_0_mHL (s : State) : Result := done 16 (s.resMem 0)

/-- `RES 0,A` (0xCB 0x87, R342). -/
def execRes_0_A (s : State) : Result := done 8 (s.resReg 0 .a)

/-- `RES 1,B` (0xCB 0x88, R342). -/
def execRes_1_B (s : State) : Result := done 8 (s.resReg 1 .b)

/-- `RES 1,C` (0xCB 0x89, R342). -/
def execRes_1_C (s : State) : Result := done 8 (s.resReg 1 .c)

/-- `RES 1,D` (0xCB 0x8A, R342). -/
def execRes_1_D (s : State) : Result := done 8 (s.resReg 1 .d)

/-- `RES 1,E` (0xCB 0x8B, R342). -/
def execRes_1_E (s : State) : Result := done 8 (s.resReg 1 .e)

/-- `RES 1,H` (0xCB 0x8C, R342). -/
def execRes_1_H (s : State) : Result := done 8 (s.resReg 1 .h)

/-- `RES 1,L` (0xCB 0x8D, R342). -/
def execRes_1_L (s : State) : Result := done 8 (s.resReg 1 .l)

/-- `RES 1,(HL)` (0xCB 0x8E, R343). -/
def execRes_1_mHL (s : State) : Result := done 16 (s.resMem 1)

/-- `RES 1,A` (0xCB 0x8F, R342). -/
def execRes_1_A (s : State) : Result := done 8 (s.resReg 1 .a)

/-- `RES 2,B` (0xCB 0x90, R342). -/
def execRes_2_B (s : State) : Result := done 8 (s.resReg 2 .b)

/-- `RES 2,C` (0xCB 0x91, R342). -/
def execRes_2_C (s : State) : Result := done 8 (s.resReg 2 .c)

/-- `RES 2,D` (0xCB 0x92, R342). -/
def execRes_2_D (s : State) : Result := done 8 (s.resReg 2 .d)

/-- `RES 2,E` (0xCB 0x93, R342). -/
def execRes_2_E (s : State) : Result := done 8 (s.resReg 2 .e)

/-- `RES 2,H` (0xCB 0x94, R342). -/
def execRes_2_H (s : State) : Result := done 8 (s.resReg 2 .h)

/-- `RES 2,L` (0xCB 0x95, R342). -/
def execRes_2_L (s : State) : Result := done 8 (s.resReg 2 .l)

/-- `RES 2,(HL)` (0xCB 0x96, R343). -/
def execRes_2_mHL (s : State) : Result := done 16 (s.resMem 2)

/-- `RES 2,A` (0xCB 0x97, R342). -/
def execRes_2_A (s : State) : Result := done 8 (s.resReg 2 .a)

/-- `RES 3,B` (0xCB 0x98, R342). -/
def execRes_3_B (s : State) : Result := done 8 (s.resReg 3 .b)

/-- `RES 3,C` (0xCB 0x99, R342). -/
def execRes_3_C (s : State) : Result := done 8 (s.resReg 3 .c)

/-- `RES 3,D` (0xCB 0x9A, R342). -/
def execRes_3_D (s : State) : Result := done 8 (s.resReg 3 .d)

/-- `RES 3,E` (0xCB 0x9B, R342). -/
def execRes_3_E (s : State) : Result := done 8 (s.resReg 3 .e)

/-- `RES 3,H` (0xCB 0x9C, R342). -/
def execRes_3_H (s : State) : Result := done 8 (s.resReg 3 .h)

/-- `RES 3,L` (0xCB 0x9D, R342). -/
def execRes_3_L (s : State) : Result := done 8 (s.resReg 3 .l)

/-- `RES 3,(HL)` (0xCB 0x9E, R343). -/
def execRes_3_mHL (s : State) : Result := done 16 (s.resMem 3)

/-- `RES 3,A` (0xCB 0x9F, R342). -/
def execRes_3_A (s : State) : Result := done 8 (s.resReg 3 .a)

/-- `RES 4,B` (0xCB 0xA0, R342). -/
def execRes_4_B (s : State) : Result := done 8 (s.resReg 4 .b)

/-- `RES 4,C` (0xCB 0xA1, R342). -/
def execRes_4_C (s : State) : Result := done 8 (s.resReg 4 .c)

/-- `RES 4,D` (0xCB 0xA2, R342). -/
def execRes_4_D (s : State) : Result := done 8 (s.resReg 4 .d)

/-- `RES 4,E` (0xCB 0xA3, R342). -/
def execRes_4_E (s : State) : Result := done 8 (s.resReg 4 .e)

/-- `RES 4,H` (0xCB 0xA4, R342). -/
def execRes_4_H (s : State) : Result := done 8 (s.resReg 4 .h)

/-- `RES 4,L` (0xCB 0xA5, R342). -/
def execRes_4_L (s : State) : Result := done 8 (s.resReg 4 .l)

/-- `RES 4,(HL)` (0xCB 0xA6, R343). -/
def execRes_4_mHL (s : State) : Result := done 16 (s.resMem 4)

/-- `RES 4,A` (0xCB 0xA7, R342). -/
def execRes_4_A (s : State) : Result := done 8 (s.resReg 4 .a)

/-- `RES 5,B` (0xCB 0xA8, R342). -/
def execRes_5_B (s : State) : Result := done 8 (s.resReg 5 .b)

/-- `RES 5,C` (0xCB 0xA9, R342). -/
def execRes_5_C (s : State) : Result := done 8 (s.resReg 5 .c)

/-- `RES 5,D` (0xCB 0xAA, R342). -/
def execRes_5_D (s : State) : Result := done 8 (s.resReg 5 .d)

/-- `RES 5,E` (0xCB 0xAB, R342). -/
def execRes_5_E (s : State) : Result := done 8 (s.resReg 5 .e)

/-- `RES 5,H` (0xCB 0xAC, R342). -/
def execRes_5_H (s : State) : Result := done 8 (s.resReg 5 .h)

/-- `RES 5,L` (0xCB 0xAD, R342). -/
def execRes_5_L (s : State) : Result := done 8 (s.resReg 5 .l)

/-- `RES 5,(HL)` (0xCB 0xAE, R343). -/
def execRes_5_mHL (s : State) : Result := done 16 (s.resMem 5)

/-- `RES 5,A` (0xCB 0xAF, R342). -/
def execRes_5_A (s : State) : Result := done 8 (s.resReg 5 .a)

/-- `RES 6,B` (0xCB 0xB0, R342). -/
def execRes_6_B (s : State) : Result := done 8 (s.resReg 6 .b)

/-- `RES 6,C` (0xCB 0xB1, R342). -/
def execRes_6_C (s : State) : Result := done 8 (s.resReg 6 .c)

/-- `RES 6,D` (0xCB 0xB2, R342). -/
def execRes_6_D (s : State) : Result := done 8 (s.resReg 6 .d)

/-- `RES 6,E` (0xCB 0xB3, R342). -/
def execRes_6_E (s : State) : Result := done 8 (s.resReg 6 .e)

/-- `RES 6,H` (0xCB 0xB4, R342). -/
def execRes_6_H (s : State) : Result := done 8 (s.resReg 6 .h)

/-- `RES 6,L` (0xCB 0xB5, R342). -/
def execRes_6_L (s : State) : Result := done 8 (s.resReg 6 .l)

/-- `RES 6,(HL)` (0xCB 0xB6, R343). -/
def execRes_6_mHL (s : State) : Result := done 16 (s.resMem 6)

/-- `RES 6,A` (0xCB 0xB7, R342). -/
def execRes_6_A (s : State) : Result := done 8 (s.resReg 6 .a)

/-- `RES 7,B` (0xCB 0xB8, R342). -/
def execRes_7_B (s : State) : Result := done 8 (s.resReg 7 .b)

/-- `RES 7,C` (0xCB 0xB9, R342). -/
def execRes_7_C (s : State) : Result := done 8 (s.resReg 7 .c)

/-- `RES 7,D` (0xCB 0xBA, R342). -/
def execRes_7_D (s : State) : Result := done 8 (s.resReg 7 .d)

/-- `RES 7,E` (0xCB 0xBB, R342). -/
def execRes_7_E (s : State) : Result := done 8 (s.resReg 7 .e)

/-- `RES 7,H` (0xCB 0xBC, R342). -/
def execRes_7_H (s : State) : Result := done 8 (s.resReg 7 .h)

/-- `RES 7,L` (0xCB 0xBD, R342). -/
def execRes_7_L (s : State) : Result := done 8 (s.resReg 7 .l)

/-- `RES 7,(HL)` (0xCB 0xBE, R343). -/
def execRes_7_mHL (s : State) : Result := done 16 (s.resMem 7)

/-- `RES 7,A` (0xCB 0xBF, R342). -/
def execRes_7_A (s : State) : Result := done 8 (s.resReg 7 .a)

/-- `SET 0,B` (0xCB 0xC0, R344). -/
def execSet_0_B (s : State) : Result := done 8 (s.setReg 0 .b)

/-- `SET 0,C` (0xCB 0xC1, R344). -/
def execSet_0_C (s : State) : Result := done 8 (s.setReg 0 .c)

/-- `SET 0,D` (0xCB 0xC2, R344). -/
def execSet_0_D (s : State) : Result := done 8 (s.setReg 0 .d)

/-- `SET 0,E` (0xCB 0xC3, R344). -/
def execSet_0_E (s : State) : Result := done 8 (s.setReg 0 .e)

/-- `SET 0,H` (0xCB 0xC4, R344). -/
def execSet_0_H (s : State) : Result := done 8 (s.setReg 0 .h)

/-- `SET 0,L` (0xCB 0xC5, R344). -/
def execSet_0_L (s : State) : Result := done 8 (s.setReg 0 .l)

/-- `SET 0,(HL)` (0xCB 0xC6, R345). -/
def execSet_0_mHL (s : State) : Result := done 16 (s.setMem 0)

/-- `SET 0,A` (0xCB 0xC7, R344). -/
def execSet_0_A (s : State) : Result := done 8 (s.setReg 0 .a)

/-- `SET 1,B` (0xCB 0xC8, R344). -/
def execSet_1_B (s : State) : Result := done 8 (s.setReg 1 .b)

/-- `SET 1,C` (0xCB 0xC9, R344). -/
def execSet_1_C (s : State) : Result := done 8 (s.setReg 1 .c)

/-- `SET 1,D` (0xCB 0xCA, R344). -/
def execSet_1_D (s : State) : Result := done 8 (s.setReg 1 .d)

/-- `SET 1,E` (0xCB 0xCB, R344). -/
def execSet_1_E (s : State) : Result := done 8 (s.setReg 1 .e)

/-- `SET 1,H` (0xCB 0xCC, R344). -/
def execSet_1_H (s : State) : Result := done 8 (s.setReg 1 .h)

/-- `SET 1,L` (0xCB 0xCD, R344). -/
def execSet_1_L (s : State) : Result := done 8 (s.setReg 1 .l)

/-- `SET 1,(HL)` (0xCB 0xCE, R345). -/
def execSet_1_mHL (s : State) : Result := done 16 (s.setMem 1)

/-- `SET 1,A` (0xCB 0xCF, R344). -/
def execSet_1_A (s : State) : Result := done 8 (s.setReg 1 .a)

/-- `SET 2,B` (0xCB 0xD0, R344). -/
def execSet_2_B (s : State) : Result := done 8 (s.setReg 2 .b)

/-- `SET 2,C` (0xCB 0xD1, R344). -/
def execSet_2_C (s : State) : Result := done 8 (s.setReg 2 .c)

/-- `SET 2,D` (0xCB 0xD2, R344). -/
def execSet_2_D (s : State) : Result := done 8 (s.setReg 2 .d)

/-- `SET 2,E` (0xCB 0xD3, R344). -/
def execSet_2_E (s : State) : Result := done 8 (s.setReg 2 .e)

/-- `SET 2,H` (0xCB 0xD4, R344). -/
def execSet_2_H (s : State) : Result := done 8 (s.setReg 2 .h)

/-- `SET 2,L` (0xCB 0xD5, R344). -/
def execSet_2_L (s : State) : Result := done 8 (s.setReg 2 .l)

/-- `SET 2,(HL)` (0xCB 0xD6, R345). -/
def execSet_2_mHL (s : State) : Result := done 16 (s.setMem 2)

/-- `SET 2,A` (0xCB 0xD7, R344). -/
def execSet_2_A (s : State) : Result := done 8 (s.setReg 2 .a)

/-- `SET 3,B` (0xCB 0xD8, R344). -/
def execSet_3_B (s : State) : Result := done 8 (s.setReg 3 .b)

/-- `SET 3,C` (0xCB 0xD9, R344). -/
def execSet_3_C (s : State) : Result := done 8 (s.setReg 3 .c)

/-- `SET 3,D` (0xCB 0xDA, R344). -/
def execSet_3_D (s : State) : Result := done 8 (s.setReg 3 .d)

/-- `SET 3,E` (0xCB 0xDB, R344). -/
def execSet_3_E (s : State) : Result := done 8 (s.setReg 3 .e)

/-- `SET 3,H` (0xCB 0xDC, R344). -/
def execSet_3_H (s : State) : Result := done 8 (s.setReg 3 .h)

/-- `SET 3,L` (0xCB 0xDD, R344). -/
def execSet_3_L (s : State) : Result := done 8 (s.setReg 3 .l)

/-- `SET 3,(HL)` (0xCB 0xDE, R345). -/
def execSet_3_mHL (s : State) : Result := done 16 (s.setMem 3)

/-- `SET 3,A` (0xCB 0xDF, R344). -/
def execSet_3_A (s : State) : Result := done 8 (s.setReg 3 .a)

/-- `SET 4,B` (0xCB 0xE0, R344). -/
def execSet_4_B (s : State) : Result := done 8 (s.setReg 4 .b)

/-- `SET 4,C` (0xCB 0xE1, R344). -/
def execSet_4_C (s : State) : Result := done 8 (s.setReg 4 .c)

/-- `SET 4,D` (0xCB 0xE2, R344). -/
def execSet_4_D (s : State) : Result := done 8 (s.setReg 4 .d)

/-- `SET 4,E` (0xCB 0xE3, R344). -/
def execSet_4_E (s : State) : Result := done 8 (s.setReg 4 .e)

/-- `SET 4,H` (0xCB 0xE4, R344). -/
def execSet_4_H (s : State) : Result := done 8 (s.setReg 4 .h)

/-- `SET 4,L` (0xCB 0xE5, R344). -/
def execSet_4_L (s : State) : Result := done 8 (s.setReg 4 .l)

/-- `SET 4,(HL)` (0xCB 0xE6, R345). -/
def execSet_4_mHL (s : State) : Result := done 16 (s.setMem 4)

/-- `SET 4,A` (0xCB 0xE7, R344). -/
def execSet_4_A (s : State) : Result := done 8 (s.setReg 4 .a)

/-- `SET 5,B` (0xCB 0xE8, R344). -/
def execSet_5_B (s : State) : Result := done 8 (s.setReg 5 .b)

/-- `SET 5,C` (0xCB 0xE9, R344). -/
def execSet_5_C (s : State) : Result := done 8 (s.setReg 5 .c)

/-- `SET 5,D` (0xCB 0xEA, R344). -/
def execSet_5_D (s : State) : Result := done 8 (s.setReg 5 .d)

/-- `SET 5,E` (0xCB 0xEB, R344). -/
def execSet_5_E (s : State) : Result := done 8 (s.setReg 5 .e)

/-- `SET 5,H` (0xCB 0xEC, R344). -/
def execSet_5_H (s : State) : Result := done 8 (s.setReg 5 .h)

/-- `SET 5,L` (0xCB 0xED, R344). -/
def execSet_5_L (s : State) : Result := done 8 (s.setReg 5 .l)

/-- `SET 5,(HL)` (0xCB 0xEE, R345). -/
def execSet_5_mHL (s : State) : Result := done 16 (s.setMem 5)

/-- `SET 5,A` (0xCB 0xEF, R344). -/
def execSet_5_A (s : State) : Result := done 8 (s.setReg 5 .a)

/-- `SET 6,B` (0xCB 0xF0, R344). -/
def execSet_6_B (s : State) : Result := done 8 (s.setReg 6 .b)

/-- `SET 6,C` (0xCB 0xF1, R344). -/
def execSet_6_C (s : State) : Result := done 8 (s.setReg 6 .c)

/-- `SET 6,D` (0xCB 0xF2, R344). -/
def execSet_6_D (s : State) : Result := done 8 (s.setReg 6 .d)

/-- `SET 6,E` (0xCB 0xF3, R344). -/
def execSet_6_E (s : State) : Result := done 8 (s.setReg 6 .e)

/-- `SET 6,H` (0xCB 0xF4, R344). -/
def execSet_6_H (s : State) : Result := done 8 (s.setReg 6 .h)

/-- `SET 6,L` (0xCB 0xF5, R344). -/
def execSet_6_L (s : State) : Result := done 8 (s.setReg 6 .l)

/-- `SET 6,(HL)` (0xCB 0xF6, R345). -/
def execSet_6_mHL (s : State) : Result := done 16 (s.setMem 6)

/-- `SET 6,A` (0xCB 0xF7, R344). -/
def execSet_6_A (s : State) : Result := done 8 (s.setReg 6 .a)

/-- `SET 7,B` (0xCB 0xF8, R344). -/
def execSet_7_B (s : State) : Result := done 8 (s.setReg 7 .b)

/-- `SET 7,C` (0xCB 0xF9, R344). -/
def execSet_7_C (s : State) : Result := done 8 (s.setReg 7 .c)

/-- `SET 7,D` (0xCB 0xFA, R344). -/
def execSet_7_D (s : State) : Result := done 8 (s.setReg 7 .d)

/-- `SET 7,E` (0xCB 0xFB, R344). -/
def execSet_7_E (s : State) : Result := done 8 (s.setReg 7 .e)

/-- `SET 7,H` (0xCB 0xFC, R344). -/
def execSet_7_H (s : State) : Result := done 8 (s.setReg 7 .h)

/-- `SET 7,L` (0xCB 0xFD, R344). -/
def execSet_7_L (s : State) : Result := done 8 (s.setReg 7 .l)

/-- `SET 7,(HL)` (0xCB 0xFE, R345). -/
def execSet_7_mHL (s : State) : Result := done 16 (s.setMem 7)

/-- `SET 7,A` (0xCB 0xFF, R344). -/
def execSet_7_A (s : State) : Result := done 8 (s.setReg 7 .a)

end Sys2Proof.Machine
end

