-- ==== Sys2Proof/Machine/Control.lean ====
section
/-!
DEFINITION. Jumps, calls and returns (spec/45_control_transfer.md R360 to R370). `PC` in the state a meaning acts on is
already past the instruction. Interrupt return is `State.returnFromInterrupt` in `Machine/Ops.lean`.
-/
namespace Sys2Proof.Machine

/-! ### Shared operations -/

/-- The cost of a conditional instruction: `CYC_TAKEN` or `CYC` (spec/70_reset_and_hazards.md R730). -/
def State.costIf (s : State) (cc : Cond) (taken notTaken : Nat) : Nat :=
  if s.regs.f.holds cc then taken else notTaken

/-- `JP cc,nn` (R361). -/
def State.jumpIf (s : State) (cc : Cond) (nn : Word) : State := if s.regs.f.holds cc then s.setPc nn else s

/-- `PC <- u16(PC + sext8(e))` (R363). -/
def State.jumpRel (s : State) (e : Byte) : State := s.setPc (s.regs.pc + sext16 e)

/-- `JR cc,e` (R364). -/
def State.jumpRelIf (s : State) (cc : Cond) (e : Byte) : State := if s.regs.f.holds cc then s.jumpRel e else s

/-- `Push16(PC); PC <- nn` (R365, R370). -/
def State.call (s : State) (nn : Word) : State := (s.push16 s.regs.pc).setPc nn

/-- `CALL cc,nn` (R366). -/
def State.callIf (s : State) (cc : Cond) (nn : Word) : State := if s.regs.f.holds cc then s.call nn else s

/-- `RET cc` (R368). -/
def State.returnIf (s : State) (cc : Cond) : State := if s.regs.f.holds cc then s.returnFrom else s

/-! ### The meanings, one per row of the opcode table -/

/-- `JR e` (0x18, R363). -/
def execJr_e (e : Byte) (s : State) : Result := done 12 (s.jumpRel e)

/-- `JR NZ,e` (0x20, R364). -/
def execJr_NZ_e (e : Byte) (s : State) : Result := done (s.costIf .nz 12 8) (s.jumpRelIf .nz e)

/-- `JR Z,e` (0x28, R364). -/
def execJr_Z_e (e : Byte) (s : State) : Result := done (s.costIf .z 12 8) (s.jumpRelIf .z e)

/-- `JR NC,e` (0x30, R364). -/
def execJr_NC_e (e : Byte) (s : State) : Result := done (s.costIf .nc 12 8) (s.jumpRelIf .nc e)

/-- `JR C,e` (0x38, R364). -/
def execJr_C_e (e : Byte) (s : State) : Result := done (s.costIf .c 12 8) (s.jumpRelIf .c e)

/-- `RET NZ` (0xC0, R368). -/
def execRet_NZ (s : State) : Result := done (s.costIf .nz 20 8) (s.returnIf .nz)

/-- `JP NZ,nn` (0xC2, R361). -/
def execJp_NZ_nn (nn : Word) (s : State) : Result := done (s.costIf .nz 16 12) (s.jumpIf .nz nn)

/-- `JP nn` (0xC3, R360). -/
def execJp_nn (nn : Word) (s : State) : Result := done 16 (s.setPc nn)

/-- `CALL NZ,nn` (0xC4, R366). -/
def execCall_NZ_nn (nn : Word) (s : State) : Result := done (s.costIf .nz 24 12) (s.callIf .nz nn)

/-- `RST 0x00` (0xC7, R370). -/
def execRst_00 (s : State) : Result := done 16 (s.call (rstTarget 0))

/-- `RET Z` (0xC8, R368). -/
def execRet_Z (s : State) : Result := done (s.costIf .z 20 8) (s.returnIf .z)

/-- `RET` (0xC9, R367). -/
def execRet (s : State) : Result := done 16 s.returnFrom

/-- `JP Z,nn` (0xCA, R361). -/
def execJp_Z_nn (nn : Word) (s : State) : Result := done (s.costIf .z 16 12) (s.jumpIf .z nn)

/-- `CALL Z,nn` (0xCC, R366). -/
def execCall_Z_nn (nn : Word) (s : State) : Result := done (s.costIf .z 24 12) (s.callIf .z nn)

/-- `CALL nn` (0xCD, R365). -/
def execCall_nn (nn : Word) (s : State) : Result := done 24 (s.call nn)

/-- `RST 0x08` (0xCF, R370). -/
def execRst_08 (s : State) : Result := done 16 (s.call (rstTarget 1))

/-- `RET NC` (0xD0, R368). -/
def execRet_NC (s : State) : Result := done (s.costIf .nc 20 8) (s.returnIf .nc)

/-- `JP NC,nn` (0xD2, R361). -/
def execJp_NC_nn (nn : Word) (s : State) : Result := done (s.costIf .nc 16 12) (s.jumpIf .nc nn)

/-- `CALL NC,nn` (0xD4, R366). -/
def execCall_NC_nn (nn : Word) (s : State) : Result := done (s.costIf .nc 24 12) (s.callIf .nc nn)

/-- `RST 0x10` (0xD7, R370). -/
def execRst_10 (s : State) : Result := done 16 (s.call (rstTarget 2))

/-- `RET C` (0xD8, R368). -/
def execRet_C (s : State) : Result := done (s.costIf .c 20 8) (s.returnIf .c)

/-- `RETI` (0xD9, R369). -/
def execReti (s : State) : Result := done 16 s.returnFromInterrupt

/-- `JP C,nn` (0xDA, R361). -/
def execJp_C_nn (nn : Word) (s : State) : Result := done (s.costIf .c 16 12) (s.jumpIf .c nn)

/-- `CALL C,nn` (0xDC, R366). -/
def execCall_C_nn (nn : Word) (s : State) : Result := done (s.costIf .c 24 12) (s.callIf .c nn)

/-- `RST 0x18` (0xDF, R370). -/
def execRst_18 (s : State) : Result := done 16 (s.call (rstTarget 3))

/-- `RST 0x20` (0xE7, R370). -/
def execRst_20 (s : State) : Result := done 16 (s.call (rstTarget 4))

/-- `JP HL` (0xE9, R362). -/
def execJp_HL (s : State) : Result := done 4 (s.setPc s.regs.hl)

/-- `RST 0x28` (0xEF, R370). -/
def execRst_28 (s : State) : Result := done 16 (s.call (rstTarget 5))

/-- `RST 0x30` (0xF7, R370). -/
def execRst_30 (s : State) : Result := done 16 (s.call (rstTarget 6))

/-- `RST 0x38` (0xFF, R370). -/
def execRst_38 (s : State) : Result := done 16 (s.call (rstTarget 7))

end Sys2Proof.Machine
end

