-- ==== Sys2Proof/Machine/Load16.lean ====
section
/-!
DEFINITION. The 16-bit loads and the stack (spec/41_load16_stack.md R240 to R246).
-/
namespace Sys2Proof.Machine

/-! ### Shared operations -/

/-- `LD (nn),SP`: low byte first, at the lower address (R241). -/
def State.storeSp (s : State) (nn : Word) : State := s.write16 nn s.regs.sp

/-- `LD HL,SP+e` (R243). -/
def State.loadHlSp (s : State) (e : Byte) : State :=
  (s.setHl (addSpResult s.regs.sp e).1).setFlags (addSpResult s.regs.sp e).2

/-- `PUSH rp2` (R245). -/
def State.pushPair (s : State) (p : StackPair) : State := s.push16 (s.regs.getStack p)

/-- `POP rp2` (R246). -/
def State.popPair (s : State) (p : StackPair) : State :=
  s.popped.withRegs (s.popped.regs.setStack p s.popValue)

/-! ### The meanings, one per row of the opcode table -/

/-- `LD BC,nn` (0x01, R240). -/
def execLd_BC_nn (nn : Word) (s : State) : Result := done 12 (s.setPair .bc nn)

/-- `LD (nn),SP` (0x08, R241). -/
def execLd_mnn_SP (nn : Word) (s : State) : Result := done 20 (s.storeSp nn)

/-- `LD DE,nn` (0x11, R240). -/
def execLd_DE_nn (nn : Word) (s : State) : Result := done 12 (s.setPair .de nn)

/-- `LD HL,nn` (0x21, R240). -/
def execLd_HL_nn (nn : Word) (s : State) : Result := done 12 (s.setPair .hl nn)

/-- `LD SP,nn` (0x31, R240). -/
def execLd_SP_nn (nn : Word) (s : State) : Result := done 12 (s.setPair .sp nn)

/-- `POP BC` (0xC1, R246). -/
def execPop_BC (s : State) : Result := done 12 (s.popPair .bc)

/-- `PUSH BC` (0xC5, R245). -/
def execPush_BC (s : State) : Result := done 16 (s.pushPair .bc)

/-- `POP DE` (0xD1, R246). -/
def execPop_DE (s : State) : Result := done 12 (s.popPair .de)

/-- `PUSH DE` (0xD5, R245). -/
def execPush_DE (s : State) : Result := done 16 (s.pushPair .de)

/-- `POP HL` (0xE1, R246). -/
def execPop_HL (s : State) : Result := done 12 (s.popPair .hl)

/-- `PUSH HL` (0xE5, R245). -/
def execPush_HL (s : State) : Result := done 16 (s.pushPair .hl)

/-- `POP AF` (0xF1, R246). -/
def execPop_AF (s : State) : Result := done 12 (s.popPair .af)

/-- `PUSH AF` (0xF5, R245). -/
def execPush_AF (s : State) : Result := done 16 (s.pushPair .af)

/-- `LD HL,SP+e` (0xF8, R243). -/
def execLd_HL_SPe (e : Byte) (s : State) : Result := done 12 (s.loadHlSp e)

/-- `LD SP,HL` (0xF9, R242). -/
def execLd_SP_HL (s : State) : Result := done 8 (s.setSp s.regs.hl)

end Sys2Proof.Machine
end

