-- ==== Sys2Proof/Machine/Load8.lean ====
section
/-!
DEFINITION. The 8-bit loads (spec/40_load8.md R200 to R219). Each meaning acts on the state after the instruction's bytes
have been fetched (spec/30_encoding.md R145) and ends with the cost of spec/70_reset_and_hazards.md R730.
-/
namespace Sys2Proof.Machine

/-! ### Shared operations -/

/-- `x[dst] <- x[src]` (R200). -/
def State.loadReg (s : State) (dst src : Reg8) : State := s.setReg8 dst (s.regs.get8 src)

/-- `x[dst] <- n` (R201). -/
def State.loadImm (s : State) (dst : Reg8) (n : Byte) : State := s.setReg8 dst n

/-- `x[dst] <- MemRead(a, 1)` (R202, R206, R207, R210, R212, R214). -/
def State.loadMem (s : State) (dst : Reg8) (a : Word) : State := (s.touch8 a).setReg8 dst (s.read8 a)

/-- `MemWrite(a, 1, v)` (R204). -/
def State.storeByte (s : State) (a : Word) (v : Byte) : State := s.write8 a v

/-- `MemWrite(a, 1, x[r])` (R203, R208, R209, R211, R213, R215). -/
def State.storeReg (s : State) (a : Word) (r : Reg8) : State := s.storeByte a (s.regs.get8 r)

/-! ### The meanings, one per row of the opcode table -/

/-- `LD (BC),A` (0x02, R208). -/
def execLd_mBC_A (s : State) : Result := done 8 (s.storeReg s.regs.bc .a)

/-- `LD B,n` (0x06, R201). -/
def execLd_B_n (n : Byte) (s : State) : Result := done 8 (s.loadImm .b n)

/-- `LD A,(BC)` (0x0A, R206). -/
def execLd_A_mBC (s : State) : Result := done 8 (s.loadMem .a s.regs.bc)

/-- `LD C,n` (0x0E, R201). -/
def execLd_C_n (n : Byte) (s : State) : Result := done 8 (s.loadImm .c n)

/-- `LD (DE),A` (0x12, R209). -/
def execLd_mDE_A (s : State) : Result := done 8 (s.storeReg s.regs.de .a)

/-- `LD D,n` (0x16, R201). -/
def execLd_D_n (n : Byte) (s : State) : Result := done 8 (s.loadImm .d n)

/-- `LD A,(DE)` (0x1A, R207). -/
def execLd_A_mDE (s : State) : Result := done 8 (s.loadMem .a s.regs.de)

/-- `LD E,n` (0x1E, R201). -/
def execLd_E_n (n : Byte) (s : State) : Result := done 8 (s.loadImm .e n)

/-- `LD (HL+),A` (0x22, R218). -/
def execLd_mHLi_A (s : State) : Result := done 8 ((s.storeReg s.regs.hl .a).setHl (s.regs.hl + 1))

/-- `LD H,n` (0x26, R201). -/
def execLd_H_n (n : Byte) (s : State) : Result := done 8 (s.loadImm .h n)

/-- `LD A,(HL+)` (0x2A, R216). -/
def execLd_A_mHLi (s : State) : Result := done 8 ((s.loadMem .a s.regs.hl).setHl (s.regs.hl + 1))

/-- `LD L,n` (0x2E, R201). -/
def execLd_L_n (n : Byte) (s : State) : Result := done 8 (s.loadImm .l n)

/-- `LD (HL-),A` (0x32, R219). -/
def execLd_mHLd_A (s : State) : Result := done 8 ((s.storeReg s.regs.hl .a).setHl (s.regs.hl - 1))

/-- `LD (HL),n` (0x36, R204). -/
def execLd_mHL_n (n : Byte) (s : State) : Result := done 12 (s.storeByte s.regs.hl n)

/-- `LD A,(HL-)` (0x3A, R217). -/
def execLd_A_mHLd (s : State) : Result := done 8 ((s.loadMem .a s.regs.hl).setHl (s.regs.hl - 1))

/-- `LD A,n` (0x3E, R201). -/
def execLd_A_n (n : Byte) (s : State) : Result := done 8 (s.loadImm .a n)

/-- `LD B,B` (0x40, R200). -/
def execLd_B_B (s : State) : Result := done 4 (s.loadReg .b .b)

/-- `LD B,C` (0x41, R200). -/
def execLd_B_C (s : State) : Result := done 4 (s.loadReg .b .c)

/-- `LD B,D` (0x42, R200). -/
def execLd_B_D (s : State) : Result := done 4 (s.loadReg .b .d)

/-- `LD B,E` (0x43, R200). -/
def execLd_B_E (s : State) : Result := done 4 (s.loadReg .b .e)

/-- `LD B,H` (0x44, R200). -/
def execLd_B_H (s : State) : Result := done 4 (s.loadReg .b .h)

/-- `LD B,L` (0x45, R200). -/
def execLd_B_L (s : State) : Result := done 4 (s.loadReg .b .l)

/-- `LD B,(HL)` (0x46, R202). -/
def execLd_B_mHL (s : State) : Result := done 8 (s.loadMem .b s.regs.hl)

/-- `LD B,A` (0x47, R200). -/
def execLd_B_A (s : State) : Result := done 4 (s.loadReg .b .a)

/-- `LD C,B` (0x48, R200). -/
def execLd_C_B (s : State) : Result := done 4 (s.loadReg .c .b)

/-- `LD C,C` (0x49, R200). -/
def execLd_C_C (s : State) : Result := done 4 (s.loadReg .c .c)

/-- `LD C,D` (0x4A, R200). -/
def execLd_C_D (s : State) : Result := done 4 (s.loadReg .c .d)

/-- `LD C,E` (0x4B, R200). -/
def execLd_C_E (s : State) : Result := done 4 (s.loadReg .c .e)

/-- `LD C,H` (0x4C, R200). -/
def execLd_C_H (s : State) : Result := done 4 (s.loadReg .c .h)

/-- `LD C,L` (0x4D, R200). -/
def execLd_C_L (s : State) : Result := done 4 (s.loadReg .c .l)

/-- `LD C,(HL)` (0x4E, R202). -/
def execLd_C_mHL (s : State) : Result := done 8 (s.loadMem .c s.regs.hl)

/-- `LD C,A` (0x4F, R200). -/
def execLd_C_A (s : State) : Result := done 4 (s.loadReg .c .a)

/-- `LD D,B` (0x50, R200). -/
def execLd_D_B (s : State) : Result := done 4 (s.loadReg .d .b)

/-- `LD D,C` (0x51, R200). -/
def execLd_D_C (s : State) : Result := done 4 (s.loadReg .d .c)

/-- `LD D,D` (0x52, R200). -/
def execLd_D_D (s : State) : Result := done 4 (s.loadReg .d .d)

/-- `LD D,E` (0x53, R200). -/
def execLd_D_E (s : State) : Result := done 4 (s.loadReg .d .e)

/-- `LD D,H` (0x54, R200). -/
def execLd_D_H (s : State) : Result := done 4 (s.loadReg .d .h)

/-- `LD D,L` (0x55, R200). -/
def execLd_D_L (s : State) : Result := done 4 (s.loadReg .d .l)

/-- `LD D,(HL)` (0x56, R202). -/
def execLd_D_mHL (s : State) : Result := done 8 (s.loadMem .d s.regs.hl)

/-- `LD D,A` (0x57, R200). -/
def execLd_D_A (s : State) : Result := done 4 (s.loadReg .d .a)

/-- `LD E,B` (0x58, R200). -/
def execLd_E_B (s : State) : Result := done 4 (s.loadReg .e .b)

/-- `LD E,C` (0x59, R200). -/
def execLd_E_C (s : State) : Result := done 4 (s.loadReg .e .c)

/-- `LD E,D` (0x5A, R200). -/
def execLd_E_D (s : State) : Result := done 4 (s.loadReg .e .d)

/-- `LD E,E` (0x5B, R200). -/
def execLd_E_E (s : State) : Result := done 4 (s.loadReg .e .e)

/-- `LD E,H` (0x5C, R200). -/
def execLd_E_H (s : State) : Result := done 4 (s.loadReg .e .h)

/-- `LD E,L` (0x5D, R200). -/
def execLd_E_L (s : State) : Result := done 4 (s.loadReg .e .l)

/-- `LD E,(HL)` (0x5E, R202). -/
def execLd_E_mHL (s : State) : Result := done 8 (s.loadMem .e s.regs.hl)

/-- `LD E,A` (0x5F, R200). -/
def execLd_E_A (s : State) : Result := done 4 (s.loadReg .e .a)

/-- `LD H,B` (0x60, R200). -/
def execLd_H_B (s : State) : Result := done 4 (s.loadReg .h .b)

/-- `LD H,C` (0x61, R200). -/
def execLd_H_C (s : State) : Result := done 4 (s.loadReg .h .c)

/-- `LD H,D` (0x62, R200). -/
def execLd_H_D (s : State) : Result := done 4 (s.loadReg .h .d)

/-- `LD H,E` (0x63, R200). -/
def execLd_H_E (s : State) : Result := done 4 (s.loadReg .h .e)

/-- `LD H,H` (0x64, R200). -/
def execLd_H_H (s : State) : Result := done 4 (s.loadReg .h .h)

/-- `LD H,L` (0x65, R200). -/
def execLd_H_L (s : State) : Result := done 4 (s.loadReg .h .l)

/-- `LD H,(HL)` (0x66, R202). -/
def execLd_H_mHL (s : State) : Result := done 8 (s.loadMem .h s.regs.hl)

/-- `LD H,A` (0x67, R200). -/
def execLd_H_A (s : State) : Result := done 4 (s.loadReg .h .a)

/-- `LD L,B` (0x68, R200). -/
def execLd_L_B (s : State) : Result := done 4 (s.loadReg .l .b)

/-- `LD L,C` (0x69, R200). -/
def execLd_L_C (s : State) : Result := done 4 (s.loadReg .l .c)

/-- `LD L,D` (0x6A, R200). -/
def execLd_L_D (s : State) : Result := done 4 (s.loadReg .l .d)

/-- `LD L,E` (0x6B, R200). -/
def execLd_L_E (s : State) : Result := done 4 (s.loadReg .l .e)

/-- `LD L,H` (0x6C, R200). -/
def execLd_L_H (s : State) : Result := done 4 (s.loadReg .l .h)

/-- `LD L,L` (0x6D, R200). -/
def execLd_L_L (s : State) : Result := done 4 (s.loadReg .l .l)

/-- `LD L,(HL)` (0x6E, R202). -/
def execLd_L_mHL (s : State) : Result := done 8 (s.loadMem .l s.regs.hl)

/-- `LD L,A` (0x6F, R200). -/
def execLd_L_A (s : State) : Result := done 4 (s.loadReg .l .a)

/-- `LD (HL),B` (0x70, R203). -/
def execLd_mHL_B (s : State) : Result := done 8 (s.storeReg s.regs.hl .b)

/-- `LD (HL),C` (0x71, R203). -/
def execLd_mHL_C (s : State) : Result := done 8 (s.storeReg s.regs.hl .c)

/-- `LD (HL),D` (0x72, R203). -/
def execLd_mHL_D (s : State) : Result := done 8 (s.storeReg s.regs.hl .d)

/-- `LD (HL),E` (0x73, R203). -/
def execLd_mHL_E (s : State) : Result := done 8 (s.storeReg s.regs.hl .e)

/-- `LD (HL),H` (0x74, R203). -/
def execLd_mHL_H (s : State) : Result := done 8 (s.storeReg s.regs.hl .h)

/-- `LD (HL),L` (0x75, R203). -/
def execLd_mHL_L (s : State) : Result := done 8 (s.storeReg s.regs.hl .l)

/-- `LD (HL),A` (0x77, R203). -/
def execLd_mHL_A (s : State) : Result := done 8 (s.storeReg s.regs.hl .a)

/-- `LD A,B` (0x78, R200). -/
def execLd_A_B (s : State) : Result := done 4 (s.loadReg .a .b)

/-- `LD A,C` (0x79, R200). -/
def execLd_A_C (s : State) : Result := done 4 (s.loadReg .a .c)

/-- `LD A,D` (0x7A, R200). -/
def execLd_A_D (s : State) : Result := done 4 (s.loadReg .a .d)

/-- `LD A,E` (0x7B, R200). -/
def execLd_A_E (s : State) : Result := done 4 (s.loadReg .a .e)

/-- `LD A,H` (0x7C, R200). -/
def execLd_A_H (s : State) : Result := done 4 (s.loadReg .a .h)

/-- `LD A,L` (0x7D, R200). -/
def execLd_A_L (s : State) : Result := done 4 (s.loadReg .a .l)

/-- `LD A,(HL)` (0x7E, R202). -/
def execLd_A_mHL (s : State) : Result := done 8 (s.loadMem .a s.regs.hl)

/-- `LD A,A` (0x7F, R200). -/
def execLd_A_A (s : State) : Result := done 4 (s.loadReg .a .a)

/-- `LDH (n),A` (0xE0, R215). -/
def execLdh_mn_A (n : Byte) (s : State) : Result := done 12 (s.storeReg (highPage n) .a)

/-- `LDH (C),A` (0xE2, R213). -/
def execLdh_mC_A (s : State) : Result := done 8 (s.storeReg (highPage s.regs.c) .a)

/-- `LD (nn),A` (0xEA, R211). -/
def execLd_mnn_A (nn : Word) (s : State) : Result := done 16 (s.storeReg nn .a)

/-- `LDH A,(n)` (0xF0, R214). -/
def execLdh_A_mn (n : Byte) (s : State) : Result := done 12 (s.loadMem .a (highPage n))

/-- `LDH A,(C)` (0xF2, R212). -/
def execLdh_A_mC (s : State) : Result := done 8 (s.loadMem .a (highPage s.regs.c))

/-- `LD A,(nn)` (0xFA, R210). -/
def execLd_A_mnn (nn : Word) (s : State) : Result := done 16 (s.loadMem .a nn)

end Sys2Proof.Machine
end

