-- ==== Sys2Proof/Machine/Rotate.lean ====
section
/-!
DEFINITION. Rotates and shifts: the accumulator rotates of the primary table and the first quarter of the secondary table
(spec/44_rotate_shift_bit.md R320 to R339).
-/
namespace Sys2Proof.Machine

/-! ### Shared operations -/

/-- `RLCA`, `RRCA`, `RLA`, `RRA`: the rotate on `A` with `Zf` cleared (R320 to R323). -/
def State.rotA (s : State) (op : RotOp) : State :=
  s.withRegs { s.regs with a := rotValue op s.regs.a s.regs.f.cf, f := accRotFlags op s.regs.a }

/-- A rotate or shift of a register (R324 to R338). -/
def State.rotReg (s : State) (op : RotOp) (r : Reg8) : State :=
  (s.setReg8 r (rotValue op (s.regs.get8 r) s.regs.f.cf)).setFlags (rotFlags op (s.regs.get8 r) s.regs.f.cf)

/-- A rotate or shift of the byte at `HL` (R325 to R339). -/
def State.rotMem (s : State) (op : RotOp) : State :=
  s.modifyHl (rotValue op (s.read8 s.regs.hl) s.regs.f.cf) (rotFlags op (s.read8 s.regs.hl) s.regs.f.cf)

/-! ### The meanings, one per row of the opcode table -/

/-- `RLCA` (0x07, R320). -/
def execRlca (s : State) : Result := done 4 (s.rotA .rlc)

/-- `RRCA` (0x0F, R321). -/
def execRrca (s : State) : Result := done 4 (s.rotA .rrc)

/-- `RLA` (0x17, R322). -/
def execRla (s : State) : Result := done 4 (s.rotA .rl)

/-- `RRA` (0x1F, R323). -/
def execRra (s : State) : Result := done 4 (s.rotA .rr)

/-- `RLC B` (0xCB 0x00, R324). -/
def execRlc_B (s : State) : Result := done 8 (s.rotReg .rlc .b)

/-- `RLC C` (0xCB 0x01, R324). -/
def execRlc_C (s : State) : Result := done 8 (s.rotReg .rlc .c)

/-- `RLC D` (0xCB 0x02, R324). -/
def execRlc_D (s : State) : Result := done 8 (s.rotReg .rlc .d)

/-- `RLC E` (0xCB 0x03, R324). -/
def execRlc_E (s : State) : Result := done 8 (s.rotReg .rlc .e)

/-- `RLC H` (0xCB 0x04, R324). -/
def execRlc_H (s : State) : Result := done 8 (s.rotReg .rlc .h)

/-- `RLC L` (0xCB 0x05, R324). -/
def execRlc_L (s : State) : Result := done 8 (s.rotReg .rlc .l)

/-- `RLC (HL)` (0xCB 0x06, R325). -/
def execRlc_mHL (s : State) : Result := done 16 (s.rotMem .rlc)

/-- `RLC A` (0xCB 0x07, R324). -/
def execRlc_A (s : State) : Result := done 8 (s.rotReg .rlc .a)

/-- `RRC B` (0xCB 0x08, R326). -/
def execRrc_B (s : State) : Result := done 8 (s.rotReg .rrc .b)

/-- `RRC C` (0xCB 0x09, R326). -/
def execRrc_C (s : State) : Result := done 8 (s.rotReg .rrc .c)

/-- `RRC D` (0xCB 0x0A, R326). -/
def execRrc_D (s : State) : Result := done 8 (s.rotReg .rrc .d)

/-- `RRC E` (0xCB 0x0B, R326). -/
def execRrc_E (s : State) : Result := done 8 (s.rotReg .rrc .e)

/-- `RRC H` (0xCB 0x0C, R326). -/
def execRrc_H (s : State) : Result := done 8 (s.rotReg .rrc .h)

/-- `RRC L` (0xCB 0x0D, R326). -/
def execRrc_L (s : State) : Result := done 8 (s.rotReg .rrc .l)

/-- `RRC (HL)` (0xCB 0x0E, R327). -/
def execRrc_mHL (s : State) : Result := done 16 (s.rotMem .rrc)

/-- `RRC A` (0xCB 0x0F, R326). -/
def execRrc_A (s : State) : Result := done 8 (s.rotReg .rrc .a)

/-- `RL B` (0xCB 0x10, R328). -/
def execRl_B (s : State) : Result := done 8 (s.rotReg .rl .b)

/-- `RL C` (0xCB 0x11, R328). -/
def execRl_C (s : State) : Result := done 8 (s.rotReg .rl .c)

/-- `RL D` (0xCB 0x12, R328). -/
def execRl_D (s : State) : Result := done 8 (s.rotReg .rl .d)

/-- `RL E` (0xCB 0x13, R328). -/
def execRl_E (s : State) : Result := done 8 (s.rotReg .rl .e)

/-- `RL H` (0xCB 0x14, R328). -/
def execRl_H (s : State) : Result := done 8 (s.rotReg .rl .h)

/-- `RL L` (0xCB 0x15, R328). -/
def execRl_L (s : State) : Result := done 8 (s.rotReg .rl .l)

/-- `RL (HL)` (0xCB 0x16, R329). -/
def execRl_mHL (s : State) : Result := done 16 (s.rotMem .rl)

/-- `RL A` (0xCB 0x17, R328). -/
def execRl_A (s : State) : Result := done 8 (s.rotReg .rl .a)

/-- `RR B` (0xCB 0x18, R330). -/
def execRr_B (s : State) : Result := done 8 (s.rotReg .rr .b)

/-- `RR C` (0xCB 0x19, R330). -/
def execRr_C (s : State) : Result := done 8 (s.rotReg .rr .c)

/-- `RR D` (0xCB 0x1A, R330). -/
def execRr_D (s : State) : Result := done 8 (s.rotReg .rr .d)

/-- `RR E` (0xCB 0x1B, R330). -/
def execRr_E (s : State) : Result := done 8 (s.rotReg .rr .e)

/-- `RR H` (0xCB 0x1C, R330). -/
def execRr_H (s : State) : Result := done 8 (s.rotReg .rr .h)

/-- `RR L` (0xCB 0x1D, R330). -/
def execRr_L (s : State) : Result := done 8 (s.rotReg .rr .l)

/-- `RR (HL)` (0xCB 0x1E, R331). -/
def execRr_mHL (s : State) : Result := done 16 (s.rotMem .rr)

/-- `RR A` (0xCB 0x1F, R330). -/
def execRr_A (s : State) : Result := done 8 (s.rotReg .rr .a)

/-- `SLA B` (0xCB 0x20, R332). -/
def execSla_B (s : State) : Result := done 8 (s.rotReg .sla .b)

/-- `SLA C` (0xCB 0x21, R332). -/
def execSla_C (s : State) : Result := done 8 (s.rotReg .sla .c)

/-- `SLA D` (0xCB 0x22, R332). -/
def execSla_D (s : State) : Result := done 8 (s.rotReg .sla .d)

/-- `SLA E` (0xCB 0x23, R332). -/
def execSla_E (s : State) : Result := done 8 (s.rotReg .sla .e)

/-- `SLA H` (0xCB 0x24, R332). -/
def execSla_H (s : State) : Result := done 8 (s.rotReg .sla .h)

/-- `SLA L` (0xCB 0x25, R332). -/
def execSla_L (s : State) : Result := done 8 (s.rotReg .sla .l)

/-- `SLA (HL)` (0xCB 0x26, R333). -/
def execSla_mHL (s : State) : Result := done 16 (s.rotMem .sla)

/-- `SLA A` (0xCB 0x27, R332). -/
def execSla_A (s : State) : Result := done 8 (s.rotReg .sla .a)

/-- `SRA B` (0xCB 0x28, R334). -/
def execSra_B (s : State) : Result := done 8 (s.rotReg .sra .b)

/-- `SRA C` (0xCB 0x29, R334). -/
def execSra_C (s : State) : Result := done 8 (s.rotReg .sra .c)

/-- `SRA D` (0xCB 0x2A, R334). -/
def execSra_D (s : State) : Result := done 8 (s.rotReg .sra .d)

/-- `SRA E` (0xCB 0x2B, R334). -/
def execSra_E (s : State) : Result := done 8 (s.rotReg .sra .e)

/-- `SRA H` (0xCB 0x2C, R334). -/
def execSra_H (s : State) : Result := done 8 (s.rotReg .sra .h)

/-- `SRA L` (0xCB 0x2D, R334). -/
def execSra_L (s : State) : Result := done 8 (s.rotReg .sra .l)

/-- `SRA (HL)` (0xCB 0x2E, R335). -/
def execSra_mHL (s : State) : Result := done 16 (s.rotMem .sra)

/-- `SRA A` (0xCB 0x2F, R334). -/
def execSra_A (s : State) : Result := done 8 (s.rotReg .sra .a)

/-- `SWAP B` (0xCB 0x30, R336). -/
def execSwap_B (s : State) : Result := done 8 (s.rotReg .swap .b)

/-- `SWAP C` (0xCB 0x31, R336). -/
def execSwap_C (s : State) : Result := done 8 (s.rotReg .swap .c)

/-- `SWAP D` (0xCB 0x32, R336). -/
def execSwap_D (s : State) : Result := done 8 (s.rotReg .swap .d)

/-- `SWAP E` (0xCB 0x33, R336). -/
def execSwap_E (s : State) : Result := done 8 (s.rotReg .swap .e)

/-- `SWAP H` (0xCB 0x34, R336). -/
def execSwap_H (s : State) : Result := done 8 (s.rotReg .swap .h)

/-- `SWAP L` (0xCB 0x35, R336). -/
def execSwap_L (s : State) : Result := done 8 (s.rotReg .swap .l)

/-- `SWAP (HL)` (0xCB 0x36, R337). -/
def execSwap_mHL (s : State) : Result := done 16 (s.rotMem .swap)

/-- `SWAP A` (0xCB 0x37, R336). -/
def execSwap_A (s : State) : Result := done 8 (s.rotReg .swap .a)

/-- `SRL B` (0xCB 0x38, R338). -/
def execSrl_B (s : State) : Result := done 8 (s.rotReg .srl .b)

/-- `SRL C` (0xCB 0x39, R338). -/
def execSrl_C (s : State) : Result := done 8 (s.rotReg .srl .c)

/-- `SRL D` (0xCB 0x3A, R338). -/
def execSrl_D (s : State) : Result := done 8 (s.rotReg .srl .d)

/-- `SRL E` (0xCB 0x3B, R338). -/
def execSrl_E (s : State) : Result := done 8 (s.rotReg .srl .e)

/-- `SRL H` (0xCB 0x3C, R338). -/
def execSrl_H (s : State) : Result := done 8 (s.rotReg .srl .h)

/-- `SRL L` (0xCB 0x3D, R338). -/
def execSrl_L (s : State) : Result := done 8 (s.rotReg .srl .l)

/-- `SRL (HL)` (0xCB 0x3E, R339). -/
def execSrl_mHL (s : State) : Result := done 16 (s.rotMem .srl)

/-- `SRL A` (0xCB 0x3F, R338). -/
def execSrl_A (s : State) : Result := done 8 (s.rotReg .srl .a)

end Sys2Proof.Machine
end

