-- ==== Sys2Proof/Machine/System.lean ====
section
/-!
DEFINITION. The instructions that act on the engine itself, the escape byte and the unmapped opcodes (spec/46_system.md R380
to R391).
-/
namespace Sys2Proof.Machine

/-! ### Shared operations -/

/-- `HALT`: the wait state, or the halt bug when an enabled interrupt is pending with `IME = 0` (R381). -/
def State.halt (s : State) : State :=
  if !s.ime && decide (s.pend ≠ 0) then { s with haltBug := true } else { s with halted := true }

/-- `STOP`: the wait state, always; its padding byte has been fetched (R382). -/
def State.stop (s : State) : State := { s with halted := true }

/-- `DI` (R383). -/
def State.disableInterrupts (s : State) : State := { s with ime := false, eiPending := false }

/-- `EI` (R384), whatever `IME` is. Corner case (b) says that with `IME = 1` nothing observable changes; read literally, the
Operation with R405 and R423 lets `ei_pending` survive an interrupt serviced in the next step, so that `IME` is 1 after the
handler's first instruction. The model follows the Operation (log entry 23, DEDUCED). -/
def State.enableInterrupts (s : State) : State := { s with eiPending := true }

/-- The escape byte: entry `op2` of the secondary table, in the same step and at its cost `CYCB[op2]` (R385, R347). -/
def State.secondaryEntry (s : State) (op2 : Byte) : Result :=
  let y := (fieldY op2).toFin
  if fieldX op2 = 0 then
    match Reg8.ofField (fieldZ op2) with
    | some r => done 8 (s.rotReg (.ofField (fieldY op2)) r)
    | none => done 16 (s.rotMem (.ofField (fieldY op2)))
  else if fieldX op2 = 1 then
    match Reg8.ofField (fieldZ op2) with
    | some r => done 8 (s.bitReg y r)
    | none => done 12 (s.bitMem y)
  else if fieldX op2 = 2 then
    match Reg8.ofField (fieldZ op2) with
    | some r => done 8 (s.resReg y r)
    | none => done 16 (s.resMem y)
  else
    match Reg8.ofField (fieldZ op2) with
    | some r => done 8 (s.setReg y r)
    | none => done 16 (s.setMem y)

/-- An unmapped opcode: `raise DecodeFault(pc0, op)` (R390). -/
def illegal (op : Byte) (s : State) : Result := s.raiseDecodeFault op

/-! ### The meanings, one per row of the opcode table -/

/-- `NOP` (0x00, R380). -/
def execNop (s : State) : Result := done 4 s

/-- `STOP` (0x10, R382). -/
def execStop (_pad : Byte) (s : State) : Result := done 4 s.stop

/-- `HALT` (0x76, R381). -/
def execHalt (s : State) : Result := done 4 s.halt

/-- `PREFIX CB` (0xCB, R385). -/
def execEscape_CB (op2 : Byte) (s : State) : Result := s.secondaryEntry op2

/-- `ILLEGAL_D3` (0xD3, R390). -/
def execIllegal_D3 (s : State) : Result := illegal 0xD3 s

/-- `ILLEGAL_DB` (0xDB, R390). -/
def execIllegal_DB (s : State) : Result := illegal 0xDB s

/-- `ILLEGAL_DD` (0xDD, R390). -/
def execIllegal_DD (s : State) : Result := illegal 0xDD s

/-- `ILLEGAL_E3` (0xE3, R390). -/
def execIllegal_E3 (s : State) : Result := illegal 0xE3 s

/-- `ILLEGAL_E4` (0xE4, R390). -/
def execIllegal_E4 (s : State) : Result := illegal 0xE4 s

/-- `ILLEGAL_EB` (0xEB, R390). -/
def execIllegal_EB (s : State) : Result := illegal 0xEB s

/-- `ILLEGAL_EC` (0xEC, R390). -/
def execIllegal_EC (s : State) : Result := illegal 0xEC s

/-- `ILLEGAL_ED` (0xED, R390). -/
def execIllegal_ED (s : State) : Result := illegal 0xED s

/-- `DI` (0xF3, R383). -/
def execDi (s : State) : Result := done 4 s.disableInterrupts

/-- `ILLEGAL_F4` (0xF4, R390). -/
def execIllegal_F4 (s : State) : Result := illegal 0xF4 s

/-- `EI` (0xFB, R384). -/
def execEi (s : State) : Result := done 4 s.enableInterrupts

/-- `ILLEGAL_FC` (0xFC, R390). -/
def execIllegal_FC (s : State) : Result := illegal 0xFC s

/-- `ILLEGAL_FD` (0xFD, R390). -/
def execIllegal_FD (s : State) : Result := illegal 0xFD s

end Sys2Proof.Machine
end

