-- ==== Sys2Proof/Machine/HostPorts.lean ====
section
/-!
DEFINITION. The host's calls between steps: the button ports and the save request (spec/00_scope.md R14, R17, R18,
spec/60_exceptions.md R462, R463, spec/61_cartridge.md R540 to R543).
-/
namespace Sys2Proof.Machine

/-- `R`, the bytes of `cart_ram` (R540). -/
def Cart.ramSize (c : Cart) : Nat := c.ramBanks * 0x2000

/-- One byte of the serialized clock block, at the time `now` of the save (R542). -/
def Rtc.saveByte (r : Rtc) (now : Nat) : RtcSaveByte → Byte
  | .live f => r.get f
  | .fill v => v
  | .stamp micros k => BitVec.ofNat 8 (now / micros / 256 ^ k)

/-- The serialized clock block: one byte per entry of the layout (R542). -/
def Rtc.serialize (r : Rtc) (now : Nat) (layout : List RtcSaveByte) : List Byte := layout.map (r.saveByte now)

/-- A byte of the block read back: a register byte is stored with the register's mask; padding and a time stamp change nothing,
since "time spent switched off is not added" (R542). -/
def Rtc.loadByte (r : Rtc) (v : Byte) : RtcSaveByte → Rtc
  | .live f => r.set f v
  | .fill _ => r
  | .stamp _ _ => r

/-- The live registers read back from a serialized block that starts at index `a` of the save data (R540). -/
def Rtc.deserialize (r : Rtc) (save : Memory) (a : Nat) : List RtcSaveByte → Rtc
  | [] => r
  | b :: bs => Rtc.deserialize (r.loadByte (save.read a) b) save (a + 1) bs

/-- The first `n` cells of one array and, from `n` on, the cells of another. -/
def Memory.splice (low high : Memory) (n : Nat) : Memory :=
  low.filter (fun c => decide (c.1 < n)) ++ high.filter (fun c => decide (n ≤ c.1))

/-- `SaveRequest()` (R541, R543): the RAM bytes from 0, the clock block right after them. The save data is at least that
long afterwards (log entry 8). -/
def State.saveRequest (s : State) : State :=
  match s.cart.kind with
  | .romOnly => s
  | .mbc3Rtc =>
    let t := s.rtcAdvance
    let n := t.cart.ramSize
    { t with host := { t.host with
      save := (t.cart.ram.splice t.host.save n).writeAll n (t.cart.rtc.serialize t.host.now t.par.rtcSaveLayout)
      saveSize := max t.host.saveSize (n + t.par.rtcSaveLayout.length) } }

/-- One call on an input port. -/
def State.hostCall (s : State) : HostCall → State
  | .press b => s.buttonPress b
  | .release b => s.buttonRelease b
  | .saveRequest => s.saveRequest

/-- Make the calls whose step index has come, in order, and keep the rest (R463). -/
def State.applyCalls : List (Nat × HostCall) → State → State
  | [], s => { s with host := { s.host with calls := [] } }
  | (k, c) :: rest, s =>
    if k ≤ s.host.stepIndex then State.applyCalls rest (s.hostCall c)
    else { s with host := { s.host with calls := (k, c) :: rest } }

/-- What happens between two steps: the host makes its calls, and the outputs of the last step are gone. -/
def State.hostPhase (s : State) : State :=
  let t := State.applyCalls s.host.calls s
  { t with host := { t.host with stepIndex := t.host.stepIndex + 1, frameReady := false, samples := [] } }

end Sys2Proof.Machine
end

