-- ==== Sys2Proof/Machine/Scheduler.lean ====
section
/-!
DEFINITION. One step: the step procedure of the CPU engine around `exec`, and the scheduler that advances timer, pixel
processor and audio processor by its cost (spec/60_exceptions.md R400 to R405, R440).
-/
namespace Sys2Proof.Machine

/-- `INT_COST` (spec/00_scope.md R5). -/
def intCost : Nat := 20

/-- `IDLE_COST` (spec/00_scope.md R5). -/
def idleCost : Nat := 4

/-- Line 4 of R400: an interrupt that is pending and enabled ends the wait state, whatever `IME` is (R403). -/
def State.wake (s : State) : State := if s.pend ≠ 0 then { s with halted := false } else s

/-- The source line 5 of R400 services, if any (R420, R422). -/
def State.serviced (s : State) : Option IntSource := if s.ime then lowestSource s.pend else none

/-- Line 11 of R400: the deferred enable (R405). `arm` is `ei_pending` before the fetch. -/
def State.retire (s : State) (arm : Bool) : State :=
  if arm ∧ s.eiPending then { s with ime := true, eiPending := false } else s

/-- Lines 7 to 12 of R400: fetch, execute, the deferred enable; an unmapped byte ends the step with its fault (line 9). -/
def State.runInstruction (s : State) : Result :=
  match exec s.fetchInstr.1 s.fetchInstr.2 with
  | .next t => .next (t.retire s.eiPending)
  | .fault f => .fault f
  | .refused r => .refused r

/-- `CpuStep()` (R400); the cost is the result's `cost`. -/
def State.cpuStep (s : State) : Result :=
  match s.fault with
  | some (pc, op) => reportFault pc op s
  | none =>
    if s.dmaStall ≠ 0 then .next { s with dmaStall := 0, cost := s.dmaStall }
    else
      match s.wake.serviced with
      | some i => .next ((s.wake.service i).withCost intCost)
      | none => if s.wake.halted then .next (s.wake.withCost idleCost) else s.wake.runInstruction

/-- The three `Advance` calls, each with the step's cost, in the fixed order (R440). -/
def State.advancePeripherals (s : State) : State :=
  ((s.timerAdvance s.cost).ppuAdvance s.cost).apuAdvance s.cost

/-- `Step()` (R440), with the host's calls before it, whether a fault is recorded or not (R19, R541); a fault is reported and
nothing advances. -/
def State.stepOnce (s : State) : Result :=
  match s.hostPhase.cpuStep with
  | .next t => .next t.advancePeripherals
  | .fault f => .fault f
  | .refused r => .refused r

/-! ### Placing an instruction where the next fetch reads it -/

/-- Store three bytes where the fetch at `PC` reads them, if `PC` and the two bytes after it lie in one storage array. -/
def State.placeAtPc (s : State) (bs : List Byte) : Option State :=
  let a := s.regs.pc.toNat
  match s.window s.regs.pc with
  | .boot => if a + 3 ≤ 0x0100 then some { s with bootImage := s.bootImage.writeAll a bs } else none
  | .cartRom =>
    if a + 3 ≤ 0x4000 ∨ (0x4000 ≤ a ∧ a + 3 ≤ 0x8000) then
      some { s with cart := { s.cart with
        rom := s.cart.rom.writeAll (s.cart.romOffset s.regs.pc) bs
        romSize := max s.cart.romSize (s.cart.romOffset s.regs.pc + 3) } }
    else none
  | .vram => if a + 3 ≤ 0xA000 then some { s with vram := s.vram.writeAll (offsetIn s.regs.pc 0x8000) bs } else none
  | .wram => if a + 3 ≤ 0xE000 then some { s with wram := s.wram.writeAll (offsetIn s.regs.pc 0xC000) bs } else none
  | .echo => if a + 3 ≤ 0xFE00 then some { s with wram := s.wram.writeAll (offsetIn s.regs.pc 0xE000) bs } else none
  | .hram => if a + 3 ≤ 0xFFFF then some { s with hram := s.hram.writeAll (offsetIn s.regs.pc 0xFF80) bs } else none
  | .cartRam => none
  | .oam => none
  | .reserved => none
  | .io => none
  | .ie => none

/-- The state in which the next step fetches the three bytes: stored at `PC`, or at 0xC000 with `PC` moved there when `PC` is
not in a storage array; no fault, stall, wait state, halt bug, due host call or service stands before the fetch. -/
def State.withFetchBytes (s : State) (bs : List Byte) : State :=
  let t :=
    match s.placeAtPc bs with
    | some u => u
    | none => { s with wram := s.wram.writeAll 0 bs }.setPc 0xC000
  { t with
    fault := none
    dmaStall := 0
    halted := false
    haltBug := false
    ime := t.ime && decide (t.pend = 0)
    host := { t.host with calls := [] } }

end Sys2Proof.Machine
end

