-- ==== Sys2Proof/Machine/Step.lean ====
section
/-!
DEFINITION. One step of the machine, and the state in which the next step runs a given instruction. Both only call
`Machine/Scheduler.lean`.
-/
namespace Sys2Proof.Machine

/-- One step: spec/60_exceptions.md R440. -/
def step (s : State) : Host.Outcome State Fault Refusal := s.stepOnce

/-- `s` with the instruction of the bits of `w` (bits at `nbits` and above 0) stored where the next step fetches. -/
def State.withFetchWord (s : State) (nbits w : Nat) : State :=
  let v := w % 2 ^ nbits
  s.withFetchBytes [BitVec.ofNat 8 v, BitVec.ofNat 8 (v / 2 ^ 8), BitVec.ofNat 8 (v / 2 ^ 16)]

end Sys2Proof.Machine
end

