-- ==== Sys2Proof/Machine/Construct.lean ====
section
/-!
DEFINITION. Construction, that is reset, from every parameter and port the host supplies, in both profiles
(spec/70_reset_and_hazards.md R700 to R705, spec/10_state.md R70 to R76, spec/61_cartridge.md R500, R502, R540).
`State.reset` is the construction with every argument at its default (`Laws/Construct.lean`).
-/
namespace Sys2Proof.Machine

/-- What construction takes (R700). -/
structure ConstructArgs where
  par : Params
  /-- `BOOT_IMAGE`. -/
  bootImage : List Byte
  /-- The cartridge image; its length is `ROM_SIZE`. -/
  rom : List Byte
  /-- The content of the `Save` port; `none` when the host has none. -/
  save : Option (List Byte)
  /-- `NowUs` at construction. -/
  now : Nat
  /-- The calls the host will make, each with its step index. -/
  calls : List (Nat × HostCall)
  deriving DecidableEq, Repr

/-- The default of every argument: no boot image, no cartridge image, no save data, time 0, no calls. -/
def ConstructArgs.default : ConstructArgs where
  par := .default
  bootImage := []
  rom := []
  save := none
  now := 0
  calls := []

/-- A header byte; an image too short to hold it reads as `OPEN_BUS`, a value no code table lists (R500, R502, R505). -/
def headerByte (rom : List Byte) (off : Nat) : Byte := rom.getD off openBus

/-- `CART_KIND` from the type byte (R500). -/
def kindOfType (t : Byte) : CartKind :=
  if t = 0x0F ∨ t = 0x10 ∨ t = 0x11 ∨ t = 0x12 ∨ t = 0x13 then .mbc3Rtc else .romOnly

/-- The smallest of `p`, `2p`, `4p`, … that is at least `n`, found within `fuel` doublings. -/
def doubleUntil (n : Nat) : Nat → Nat → Nat
  | 0, p => p
  | fuel + 1, p => if n ≤ p then p else doubleUntil n fuel (2 * p)

/-- `ROM_BANKS` (R502). -/
def romBanksOf (code : Byte) (romSize : Nat) : Nat :=
  if code.toNat ≤ 8 then 2 <<< code.toNat
  else
    let n := (romSize + 0x3FFF) / 0x4000
    doubleUntil n n 2

/-- The RAM size code's bank count before the variant's limit (R502). -/
def ramBanksOfCode (code : Byte) : Nat :=
  if code = 1 then 1
  else if code = 2 then 1
  else if code = 3 then 4
  else if code = 4 then 16
  else if code = 5 then 8
  else 0

/-- `RAM_BANKS` (R502). -/
def ramBanksOf (kind : CartKind) (code : Byte) : Nat :=
  match kind with
  | .romOnly => 0
  | .mbc3Rtc => min (ramBanksOfCode code) 4

/-- `cart_ram` after construction (R540): the first `size` bytes of a save that has them, else zero. -/
def loadedRam (save : List Byte) (size : Nat) : Memory :=
  if size ≤ save.length then Memory.ofBytes (save.take size) else []

/-- The live clock after construction (R540): deserialized from a save that has the whole block, else 0. -/
def loadedRtc (save : List Byte) (size : Nat) (layout : List RtcSaveByte) : Rtc :=
  if size + layout.length ≤ save.length then Rtc.zero.deserialize (Memory.ofBytes save) size layout else .zero

/-- The cartridge after construction (R76, R500, R502, R540, R543). -/
def Cart.construct (a : ConstructArgs) : Cart :=
  let kind := kindOfType (headerByte a.rom 0x0147)
  let ramBanks := ramBanksOf kind (headerByte a.rom 0x0149)
  let save := a.save.getD []
  let rtc :=
    match kind with
    | .romOnly => Rtc.zero
    | .mbc3Rtc => loadedRtc save (ramBanks * 0x2000) a.par.rtcSaveLayout
  { kind := kind
    rom := Memory.ofBytes a.rom
    romSize := a.rom.length
    romBanks := romBanksOf (headerByte a.rom 0x0148) a.rom.length
    ramBanks := ramBanks
    ramEnable := false
    romBank := 1
    ramSel := 0
    latchPrev := 0xFF
    bankMode := false
    rtc := rtc
    lat := rtc
    rtcAnchor := a.now
    ram :=
      match kind with
      | .romOnly => []
      | .mbc3Rtc => loadedRam save (ramBanks * 0x2000) }

/-- The CPU side of the `skip` profile (R71, R73): the values the boot program would have left. -/
def State.skipBoot (s : State) : State :=
  { s with
    regs :=
      { a := 0x01, f := { zf := true, nf := false, hf := true, cf := true }, b := 0x00, c := 0x13, d := 0x00, e := 0xD8,
        h := 0x01, l := 0x4D, sp := 0xFFFE, pc := 0x0100 }
    iflag := 0b00001
    bootMapped := false
    timer := { s.timer with sysclk := 0xABCC }
    ppu := { s.ppu with lcdc := 0x91, mode := .oamScan }
    apu := { s.apu with on := true, nr50 := 0x77, nr51 := 0xF3 } }

/-- `Construct()` (R700). -/
def State.construct (a : ConstructArgs) : State :=
  let s :=
    { State.reset with
      bootImage := Memory.ofBytes (a.bootImage.take 0x100)
      cart := Cart.construct a
      apu := { State.reset.apu with sampleClock := a.par.samplePeriodPred + 1 }
      par := a.par
      host := { State.reset.host with
        now := a.now
        calls := a.calls
        save := Memory.ofBytes (a.save.getD [])
        saveSize := (a.save.getD []).length } }
  match a.par.boot with
  | .overlay => s
  | .skip => s.skipBoot

end Sys2Proof.Machine
end

