-- ==== Sys2Proof/Safety.lean ====
section
/-!
DEFINITION. What a safe state is: the invariants the claims use. Each says of one part of the state what the spec says
"between steps", and bounds the counters that `Machine/State.lean` holds as natural numbers.
-/
namespace Sys2Proof

/-- The instructions with a `MemWrite` or a `Push16` in their Operation: the ones that may store to memory. -/
def Instr.stores (i : Instr) : Bool :=
  match i with
  | .ld_mBC_A | .ld_mnn_SP _ | .ld_mDE_A | .ld_mHLi_A | .ld_mHLd_A | .inc_mHL | .dec_mHL | .ld_mHL_n _ | .ld_mHL_B |
    .ld_mHL_C | .ld_mHL_D | .ld_mHL_E | .ld_mHL_H | .ld_mHL_L | .ld_mHL_A | .call_NZ_nn _ | .push_BC | .rst_00 |
    .escape_CB _ | .call_Z_nn _ | .call_nn _ | .rst_08 | .call_NC_nn _ | .push_DE | .rst_10 | .call_C_nn _ | .rst_18 |
    .ldh_mn_A _ | .ldh_mC_A | .push_HL | .rst_20 | .ld_mnn_A _ | .rst_28 | .push_AF | .rst_30 | .rst_38 | .rlc_mHL |
    .rrc_mHL | .rl_mHL | .rr_mHL | .sla_mHL | .sra_mHL | .swap_mHL | .srl_mHL | .res_0_mHL | .res_1_mHL | .res_2_mHL |
    .res_3_mHL | .res_4_mHL | .res_5_mHL | .res_6_mHL | .res_7_mHL | .set_0_mHL | .set_1_mHL | .set_2_mHL |
    .set_3_mHL | .set_4_mHL | .set_5_mHL | .set_6_mHL | .set_7_mHL => true
  | _ => false

/-- The instructions that act on the engine itself: `HALT`, `STOP`, `DI`, `EI`, `RETI` and the unmapped bytes. -/
def Instr.onEngine (i : Instr) : Bool :=
  match i with
  | .stop _ | .halt | .illegal_D3 | .reti | .illegal_DB | .illegal_DD | .illegal_E3 | .illegal_E4 | .illegal_EB |
    .illegal_EC | .illegal_ED | .di | .illegal_F4 | .ei | .illegal_FC | .illegal_FD => true
  | _ => false

/-- The eleven `ILLEGAL` rows: the instructions whose meaning is to stop (spec/46_system.md R390). -/
def Instr.unmapped (i : Instr) : Bool :=
  match i with
  | .illegal_D3 | .illegal_DB | .illegal_DD | .illegal_E3 | .illegal_E4 | .illegal_EB | .illegal_EC | .illegal_ED |
    .illegal_F4 | .illegal_FC | .illegal_FD => true
  | _ => false

end Sys2Proof

namespace Sys2Proof.Machine

/-- The state a step or an instruction leaves the machine in: the next state, or the one a reported fault carries. -/
def stateAfter : Result → Option State
  | .next t => some t
  | .fault (.decodeFault _ _ t) => some t
  | .refused _ => none

/-- A storage array of `n` cells in canonical form. -/
abbrev Memory.Fits (m : Memory) (n : Nat) : Prop := m.wf ∧ m.below n

/-- Every storage array is in canonical form and of its size (spec/10_state.md R44, spec/63_apu.md R621). -/
structure MemInv (s : State) : Prop where
  bootImage : s.bootImage.Fits 0x100
  vram : s.vram.Fits 0x2000
  wram : s.wram.Fits 0x2000
  oam : s.oam.Fits 0xA0
  hram : s.hram.Fits 0x7F
  rom : s.cart.rom.Fits s.cart.romSize
  ram : s.cart.ram.Fits (s.cart.ramBanks * 0x2000)
  wave : s.apu.wave.Fits 16
  save : s.host.save.wf

/-- The timer's sub-counter is below the selected period (spec/60_exceptions.md R450). -/
abbrev TimerInv (s : State) : Prop := s.timer.tsub < s.timer.period

/-- The clock's anchor is a time already read (spec/61_cartridge.md R521), and no rule has stored a banking mode (R515). -/
structure CartInv (s : State) : Prop where
  anchor : s.cart.rtcAnchor ≤ s.host.now
  bankMode : s.cart.bankMode = false

/-- A switched-off display rests at line 0 in mode 0 (spec/62_ppu.md R570); a running one has a mode clock below its mode's
budget (R562), a line below 154, is in mode 1 exactly from line 144 on (R563), and remembers the level its STAT line has
(R572). -/
structure ScanInv (s : State) : Prop where
  off : s.ppu.on = false →
    s.ppu.mode = .hBlank ∧ s.ppu.modeClock = 0 ∧ s.ppu.ly = 0 ∧ s.ppu.winLine = 0 ∧ s.ppu.statLevel = false
  clock : s.ppu.modeClock < s.ppu.mode.budget
  line : s.ppu.ly.toNat < 154
  blank : s.ppu.on = true → (s.ppu.mode = .vBlank ↔ 144 ≤ s.ppu.ly.toNat)
  level : s.ppu.on = true → s.ppu.statLevel = s.ppu.statLine

/-- The pixel processor's buffers have their sizes (spec/62_ppu.md R552, R553). -/
structure BufferInv (s : State) : Prop where
  sprites : s.ppu.sprites.length = 40
  bgIdx : s.ppu.bgIdx.length = 160
  objDrawn : s.ppu.objDrawn.length = 160
  lines : s.ppu.fb.length = 144
  columns : ∀ row ∈ s.ppu.fb, row.length = 160

/-- The audio counters are in the ranges of spec/63_apu.md R621 to R624, and a switched-off audio processor holds every
channel field at 0 (R652, R680). -/
structure ApuInv (s : State) : Prop where
  seqClock : s.apu.seqClock < 8192
  sampleLow : 1 ≤ s.apu.sampleClock
  sampleHigh : s.apu.sampleClock ≤ s.par.samplePeriodPred + 1
  len1 : s.apu.ch1.ch.len ≤ 64
  len2 : s.apu.ch2.ch.len ≤ 64
  len3 : s.apu.ch3.ch.len ≤ 256
  len4 : s.apu.ch4.ch.len ≤ 64
  ftimer1 : s.apu.ch1.ch.ftimer ≤ 8192
  ftimer2 : s.apu.ch2.ch.ftimer ≤ 8192
  ftimer3 : s.apu.ch3.ch.ftimer ≤ 4096
  ftimer4 : s.apu.ch4.ch.ftimer ≤ 112 * 2 ^ 15
  sweepTimer : s.apu.sweep.timer ≤ 8
  off : s.apu.on = false →
    s.apu.ch1 = .zero ∧ s.apu.sweep = .zero ∧ s.apu.ch2 = .zero ∧ s.apu.ch3 = .zero ∧ s.apu.ch4 = .zero
      ∧ s.apu.nr50 = 0 ∧ s.apu.nr51 = 0

/-- The execution states of the engine (spec/60_exceptions.md R431): a stall is one DMA's worth of cycles, and "Stalled and
Waiting never hold together". -/
structure EngineInv (s : State) : Prop where
  stall : s.dmaStall = 0 ∨ s.dmaStall = dmaStallCycles
  exclusive : s.dmaStall ≠ 0 → s.halted = false

/-- The engine goes on to fetch an opcode in this step: lines 1, 2, 5 and 6 of R400 do not return. -/
abbrev State.Fetches (s : State) : Prop :=
  s.fault = none ∧ s.dmaStall = 0 ∧ (s.ime = false ∨ s.pend = 0) ∧ (s.halted = false ∨ s.pend ≠ 0)

/-- The effect of fetching `k` bytes from `a` on: the reads' effects, in address order. -/
def State.touchRange (s : State) (a : Word) (k : Nat) : State :=
  (List.range k).foldl (fun t i => t.touch8 (a + BitVec.ofNat 16 i)) s

/-- The address of the cell an address of video, work, echo or high RAM reaches: an echo address is the work RAM address
0x2000 below it (spec/20_memory.md R92). -/
def ramCell (a : Word) : Word := if 0xE000 ≤ a.toNat ∧ a.toNat < 0xFE00 then a - 0x2000 else a

/-- The address lies in video RAM, work RAM, its echo or high RAM (spec/20_memory.md R81). -/
abbrev isRam (a : Word) : Prop :=
  (0x8000 ≤ a.toNat ∧ a.toNat < 0xA000) ∨ (0xC000 ≤ a.toNat ∧ a.toNat < 0xFE00) ∨ (0xFF80 ≤ a.toNat ∧ a.toNat < 0xFFFF)

/-- `((day × 24 + h) × 60 + m) × 60 + s` (spec/61_cartridge.md R522). -/
def Rtc.total (r : Rtc) : Nat := ((r.day * 24 + r.h.toNat) * 60 + r.m.toNat) * 60 + r.s.toNat

/-- The clock registers are inside their normal ranges, "`s < 60, m < 60, h < 24`" (R522). -/
abbrev Rtc.InRange (r : Rtc) : Prop := r.s.toNat < 60 ∧ r.m.toNat < 60 ∧ r.h.toNat < 24

/-- A state the machine can be in between two steps. -/
structure Inv (s : State) : Prop where
  mem : MemInv s
  timer : TimerInv s
  cart : CartInv s
  scan : ScanInv s
  buffers : BufferInv s
  apu : ApuInv s
  engine : EngineInv s

end Sys2Proof.Machine
end

