-- ==== Sys2Proof/Certificates/Slice0/Obligations.lean ====
section
/-!
DEFINITION. The statements for the provers. Where a statement gives a next state by a record update, the fields it does not
name are unchanged: that is its frame. A meaning acts on the state after the instruction's bytes have been fetched; the
statement about `step` gives the fetch.
-/

section

open Sys2Proof Sys2Proof.Machine

/-! ### Encoding (spec/30_encoding.md) -/

/-- Decoding the bytes of a well-formed instruction gives it back, with every operand at every value, and leaves the bytes
after it (R140, R141, R145, R151 to R156).
Choices of the spec that it rests on: D1. -/
def Obligations.DecodeEncodeRoundTrip : Prop :=
  ∀ (i : Instr) (rest : List Byte), i.WellFormed → decode (encode i ++ rest) = .ok (i, rest)

/-- Whatever the decoder reads is well-formed, and its encoding is exactly the bytes that were read.
Choices of the spec that it rests on: D1. -/
def Obligations.DecodedBytesReencode : Prop :=
  ∀ (bs rest : List Byte) (i : Instr), decode bs = .ok (i, rest) → i.WellFormed ∧ bs = encode i ++ rest

/-- Words written out from the examples of the rules decode to the instructions they stand for.
Choices of the spec that it rests on: D1, D11, D12. -/
def Obligations.SpecWordsDecode : Prop :=
  decode [0x41] = .ok (.ld_B_C, []) ∧ decode [0xF0, 0x44] = .ok (.ldh_A_mn 0x44, [])
  ∧ decode [0x21, 0x00, 0xC1] = .ok (.ld_HL_nn 0xC100, []) ∧ decode [0xC5] = .ok (.push_BC, [])
  ∧ decode [0x80] = .ok (.add_A_B, []) ∧ decode [0x27] = .ok (.daa, []) ∧ decode [0xE8, 0xF0] = .ok (.add_SP_e 0xF0, [])
  ∧ decode [0xCB, 0x37] = .ok (.swap_A, []) ∧ decode [0xCB, 0x7C] = .ok (.bit_7_H, [])
  ∧ decode [0xCB, 0x86] = .ok (.res_0_mHL, []) ∧ decode [0xCB, 0xD8] = .ok (.set_3_B, [])
  ∧ decode [0xCB, 0xCB] = .ok (.set_1_E, []) ∧ decode [0xCD, 0x34, 0x12] = .ok (.call_nn 0x1234, [])
  ∧ decode [0x76] = .ok (.halt, []) ∧ decode [0xEF] = .ok (.rst_28, [])

/-- R150: the length is fixed by the first byte; the eleven unmapped bytes, which decode to their `ILLEGAL` rows, have none:
fetching one leaves `PC` at the byte.
Choices of the spec that it rests on: D1, D13. -/
def Obligations.LengthFromFirstByte : Prop :=
  (∀ (op : Byte) (rest r : List Byte) (i : Instr), op ∉ unmappedBytes → decode (op :: rest) = .ok (i, r) →
    rest.length + 1 = r.length +
      (if op ∈ [0x01, 0x11, 0x21, 0x31, 0x08, 0xC2, 0xCA, 0xD2, 0xDA, 0xC3, 0xC4, 0xCC, 0xD4, 0xDC, 0xCD, 0xEA, 0xFA] then 3
        else if op ∈ [0x06, 0x0E, 0x16, 0x1E, 0x26, 0x2E, 0x36, 0x3E, 0x10, 0x18, 0x20, 0x28, 0x30, 0x38, 0xC6, 0xCE, 0xD6,
          0xDE, 0xE6, 0xEE, 0xF6, 0xFE, 0xE0, 0xF0, 0xE8, 0xF8, 0xCB] then 2
        else 1))
  ∧ (∀ op : Byte, (∃ i, primary op = .illegal i) ↔ op ∈ unmappedBytes)
  ∧ ∀ s : State, s.fetchByte ∈ unmappedBytes → s.fetchInstr.2.regs = s.regs ∧ s.fetchInstr.2.haltBug = s.haltBug

/-! ### The register file (spec/00_scope.md R7, spec/10_state.md R20, R24, R25) -/

/-- Reading back what was written: a byte register, a pair, a stack pair. A write to a half or a pair leaves every other
register, `AF` drops the low nibble of `F`, and the low nibble of `F` always reads as zero (R24). -/
def Obligations.RegistersReadBack : Prop :=
  (∀ (r : Regs) (x y : Reg8) (v : Byte), (r.set8 x v).get8 y = if y = x then v else r.get8 y)
  ∧ (∀ (r : Regs) (x : Reg8) (v : Byte),
      (r.set8 x v).f = r.f ∧ (r.set8 x v).sp = r.sp ∧ (r.set8 x v).pc = r.pc)
  ∧ (∀ (r : Regs) (p q : Pair) (v : Word), (r.setPair p v).getPair q = if q = p then v else r.getPair q)
  ∧ (∀ (r : Regs) (p q : StackPair) (v : Word),
      (r.setStack p v).getStack q = if q = p then (if p = .af then v &&& 0xFFF0 else v) else r.getStack q)
  ∧ (∀ (r : Regs) (p : Pair) (v : Word), (r.setPair p v).a = r.a ∧ (r.setPair p v).f = r.f ∧ (r.setPair p v).pc = r.pc)
  ∧ (∀ r : Regs, r.getPair .bc = r.b ++ r.c ∧ r.getPair .de = r.d ++ r.e ∧ r.getPair .hl = r.h ++ r.l
      ∧ r.getStack .af = r.a ++ r.f.toByte)
  ∧ (∀ f : Flags, f.toByte &&& 0x0F = 0x00 ∧ Flags.ofByte f.toByte = f)
  ∧ ∀ v : Byte, (Flags.ofByte v).toByte = v &&& 0xF0

/-! ### 8-bit loads (spec/40_load8.md) -/

/-- R200 to R204.
Choices of the spec that it rests on: D1. -/
def Obligations.LoadsOfRegistersAndHl : Prop :=
  ∀ (s : State) (x r : Reg8) (n : Byte),
    encode (.ldRR x r) = [0b01#2 ++ x.code ++ r.code]
    ∧ exec (.ldRR x r) s = .next { s with regs := s.regs.set8 x (s.regs.get8 r), cost := 4 }
    ∧ encode (.ldRN x n) = [0b00#2 ++ x.code ++ 0b110#3, n]
    ∧ exec (.ldRN x n) s = .next { s with regs := s.regs.set8 x n, cost := 8 }
    ∧ encode (.ldRM x) = [0b01#2 ++ x.code ++ 0b110#3]
    ∧ exec (.ldRM x) s
        = .next { s.touch8 s.regs.hl with regs := s.regs.set8 x (s.read8 s.regs.hl), cost := 8 }
    ∧ encode (.ldMR r) = [0b01110#5 ++ r.code]
    ∧ exec (.ldMR r) s = .next { s.write8 s.regs.hl (s.regs.get8 r) with cost := 8 }
    ∧ encode (.ld_mHL_n n) = [0x36, n]
    ∧ exec (.ld_mHL_n n) s = .next { s.write8 s.regs.hl n with cost := 12 }

/-- R206 to R209 and R216 to R219: `A` and the byte at a pair; the `+` and `-` forms move `HL` afterwards, modulo 65536.
Choices of the spec that it rests on: D1. -/
def Obligations.LoadsThroughPointers : Prop :=
  ∀ s : State,
    (encode .ld_A_mBC = [0x0A] ∧ encode .ld_A_mDE = [0x1A] ∧ encode .ld_mBC_A = [0x02] ∧ encode .ld_mDE_A = [0x12]
      ∧ encode .ld_A_mHLi = [0x2A] ∧ encode .ld_A_mHLd = [0x3A] ∧ encode .ld_mHLi_A = [0x22] ∧ encode .ld_mHLd_A = [0x32])
    ∧ exec .ld_A_mBC s = .next { s.touch8 s.regs.bc with regs := { s.regs with a := s.read8 s.regs.bc }, cost := 8 }
    ∧ exec .ld_A_mDE s = .next { s.touch8 s.regs.de with regs := { s.regs with a := s.read8 s.regs.de }, cost := 8 }
    ∧ exec .ld_mBC_A s = .next { s.write8 s.regs.bc s.regs.a with cost := 8 }
    ∧ exec .ld_mDE_A s = .next { s.write8 s.regs.de s.regs.a with cost := 8 }
    ∧ exec .ld_A_mHLi s
        = .next { s.touch8 s.regs.hl with
            regs := { s.regs with a := s.read8 s.regs.hl, h := hiByte (s.regs.hl + 1), l := loByte (s.regs.hl + 1) }
            cost := 8 }
    ∧ exec .ld_A_mHLd s
        = .next { s.touch8 s.regs.hl with
            regs := { s.regs with a := s.read8 s.regs.hl, h := hiByte (s.regs.hl - 1), l := loByte (s.regs.hl - 1) }
            cost := 8 }
    ∧ exec .ld_mHLi_A s
        = .next { s.write8 s.regs.hl s.regs.a with
            regs := { s.regs with h := hiByte (s.regs.hl + 1), l := loByte (s.regs.hl + 1) }, cost := 8 }
    ∧ exec .ld_mHLd_A s
        = .next { s.write8 s.regs.hl s.regs.a with
            regs := { s.regs with h := hiByte (s.regs.hl - 1), l := loByte (s.regs.hl - 1) }, cost := 8 }

/-- R210 to R215: the absolute and the high-page forms; the high page is `0xFF00 + C` or `0xFF00 + n`.
Choices of the spec that it rests on: D1. -/
def Obligations.LoadsOfFixedAddresses : Prop :=
  ∀ (s : State) (n : Byte) (nn : Word),
    (encode (.ld_A_mnn nn) = [0xFA, loByte nn, hiByte nn] ∧ encode (.ld_mnn_A nn) = [0xEA, loByte nn, hiByte nn]
      ∧ encode .ldh_A_mC = [0xF2] ∧ encode .ldh_mC_A = [0xE2] ∧ encode (.ldh_A_mn n) = [0xF0, n]
      ∧ encode (.ldh_mn_A n) = [0xE0, n])
    ∧ exec (.ld_A_mnn nn) s = .next { s.touch8 nn with regs := { s.regs with a := s.read8 nn }, cost := 16 }
    ∧ exec (.ld_mnn_A nn) s = .next { s.write8 nn s.regs.a with cost := 16 }
    ∧ exec .ldh_A_mC s
        = .next { s with regs := { s.regs with a := s.read8 (0xFF00 + s.regs.c.setWidth 16) }, cost := 8 }
    ∧ exec .ldh_mC_A s = .next { s.write8 (0xFF00 + s.regs.c.setWidth 16) s.regs.a with cost := 8 }
    ∧ exec (.ldh_A_mn n) s
        = .next { s with regs := { s.regs with a := s.read8 (0xFF00 + n.setWidth 16) }, cost := 12 }
    ∧ exec (.ldh_mn_A n) s = .next { s.write8 (0xFF00 + n.setWidth 16) s.regs.a with cost := 12 }

/-! ### 16-bit loads and the stack (spec/41_load16_stack.md, spec/43_alu16.md) -/

/-- R240 to R243, R313, R314: for a stack pointer plus a displacement the sum is signed, the flags are those of the unsigned
addition of the low byte and the raw byte.
Choices of the spec that it rests on: D1. -/
def Obligations.WordLoadsAndStackPointerSums : Prop :=
  ∀ (s : State) (p : Pair) (nn : Word) (e : Byte),
    let res : Word :=
      BitVec.ofInt 16 ((s.regs.sp.toNat : Int) + (if e.toNat < 0x80 then (e.toNat : Int) else (e.toNat : Int) - 256))
    let fl : Flags :=
      { zf := false, nf := false, hf := decide (s.regs.sp.toNat % 16 + e.toNat % 16 > 0x0F),
        cf := decide (s.regs.sp.toNat % 256 + e.toNat > 0xFF) }
    encode (.ldRpNN p nn) = [0b00#2 ++ p.code ++ 0b0001#4, loByte nn, hiByte nn]
    ∧ exec (.ldRpNN p nn) s = .next { s with regs := s.regs.setPair p nn, cost := 12 }
    ∧ encode (.ld_mnn_SP nn) = [0x08, loByte nn, hiByte nn]
    ∧ exec (.ld_mnn_SP nn) s
        = .next { (s.write8 nn (loByte s.regs.sp)).write8 (nn + 1) (hiByte s.regs.sp) with cost := 20 }
    ∧ encode .ld_SP_HL = [0xF9]
    ∧ exec .ld_SP_HL s = .next { s with regs := { s.regs with sp := s.regs.hl }, cost := 8 }
    ∧ encode (.ld_HL_SPe e) = [0xF8, e]
    ∧ exec (.ld_HL_SPe e) s
        = .next { s with regs := { s.regs with h := hiByte res, l := loByte res, f := fl }, cost := 12 }
    ∧ encode (.add_SP_e e) = [0xE8, e]
    ∧ exec (.add_SP_e e) s = .next { s with regs := { s.regs with sp := res, f := fl }, cost := 16 }

/-- R245, R246: a push stores the high byte at `SP - 1`, then the low byte at `SP - 2`; a pop reads the low byte at `SP`, the
high byte at `SP + 1`. `POP AF` takes the four flags from bits 7 to 4, the other pops write no flag.
Choices of the spec that it rests on: D1, D3. -/
def Obligations.PushAndPop : Prop :=
  ∀ (s : State) (p : StackPair),
    encode (.push p) = [0b11#2 ++ p.code ++ 0b0101#4]
    ∧ exec (.push p) s
        = .next { (s.write8 (s.regs.sp - 1) (hiByte (s.regs.getStack p))).write8 (s.regs.sp - 2)
              (loByte (s.regs.getStack p)) with
            regs := { s.regs with sp := s.regs.sp - 2 }, cost := 16 }
    ∧ encode (.pop p) = [0b11#2 ++ p.code ++ 0b0001#4]
    ∧ exec (.pop p) s
        = .next { (s.touch8 s.regs.sp).touch8 (s.regs.sp + 1) with
            regs := { s.regs.setStack p (s.read8 (s.regs.sp + 1) ++ s.read8 s.regs.sp) with sp := s.regs.sp + 2 }
            cost := 12 }
    ∧ (∀ v : Word, (s.regs.setStack p v).f = if p = .af then ⟨v.getLsbD 7, v.getLsbD 6, v.getLsbD 5, v.getLsbD 4⟩ else s.regs.f)
    ∧ ∀ f : Flags, f.toByte.getLsbD 7 = f.zf ∧ f.toByte.getLsbD 6 = f.nf ∧ f.toByte.getLsbD 5 = f.hf ∧ f.toByte.getLsbD 4 = f.cf

/-- With the two stack bytes in work RAM, a pop after a push of the same pair gives back every register: the pair, `SP`, and
for `AF` the flags too, since the low nibble of `F` is zero already.
Choices of the spec that it rests on: D1, D4. -/
def Obligations.PopAfterPush : Prop :=
  ∀ (s : State) (p : StackPair), s.wram.wf → 0xC002 ≤ s.regs.sp.toNat → s.regs.sp.toNat ≤ 0xE000 →
    ∃ t u, exec (.push p) s = .next t ∧ exec (.pop p) t = .next u ∧ u.regs = s.regs
      ∧ (∀ a, u.read8 a = t.read8 a)
      ∧ ∀ a, ramCell a ≠ s.regs.sp - 1 → ramCell a ≠ s.regs.sp - 2 → t.read8 a = s.read8 a

/-! ### 8-bit arithmetic and logic (spec/42_alu8.md) -/

/-- R254, R260 to R265.
Choices of the spec that it rests on: D1. -/
def Obligations.AddAndAdc : Prop :=
  ∀ (s : State) (r : Reg8) (n : Byte),
    let after (u : State) (v : Byte) (cin cost : Nat) : State :=
      { u with
        regs := { s.regs with
          a := BitVec.ofNat 8 (s.regs.a.toNat + v.toNat + cin)
          f :=
            { zf := decide ((s.regs.a.toNat + v.toNat + cin) % 256 = 0)
              nf := false
              hf := decide (s.regs.a.toNat % 16 + v.toNat % 16 + cin > 0x0F)
              cf := decide (s.regs.a.toNat + v.toNat + cin > 0xFF) } }
        cost := cost }
    (encode (.aluR .add r) = [0b10000#5 ++ r.code] ∧ encode (.aluM .add) = [0x86] ∧ encode (.aluN .add n) = [0xC6, n]
      ∧ encode (.aluR .adc r) = [0b10001#5 ++ r.code] ∧ encode (.aluM .adc) = [0x8E] ∧ encode (.aluN .adc n) = [0xCE, n])
    ∧ exec (.aluR .add r) s = .next (after s (s.regs.get8 r) 0 4)
    ∧ exec (.aluM .add) s = .next (after (s.touch8 s.regs.hl) (s.read8 s.regs.hl) 0 8)
    ∧ exec (.aluN .add n) s = .next (after s n 0 8)
    ∧ exec (.aluR .adc r) s = .next (after s (s.regs.get8 r) s.regs.f.cf.toNat 4)
    ∧ exec (.aluM .adc) s = .next (after (s.touch8 s.regs.hl) (s.read8 s.regs.hl) s.regs.f.cf.toNat 8)
    ∧ exec (.aluN .adc n) s = .next (after s n s.regs.f.cf.toNat 8)

/-- R255, R266 to R271, R281 to R283: the borrow-in is 0 or `Cf`; `CP` writes the flags of `SUB` and leaves `A`.
Choices of the spec that it rests on: D1. -/
def Obligations.SubSbcAndCp : Prop :=
  ∀ (s : State) (r : Reg8) (n : Byte),
    let fl (v : Byte) (cin : Nat) : Flags :=
      { zf := decide (((s.regs.a.toNat : Int) - v.toNat - cin) % 256 = 0)
        nf := true
        hf := decide (((s.regs.a.toNat % 16 : Nat) : Int) - ((v.toNat % 16 : Nat) : Int) - cin < 0)
        cf := decide ((s.regs.a.toNat : Int) - v.toNat - cin < 0) }
    let after (u : State) (v : Byte) (cin cost : Nat) : State :=
      { u with
        regs := { s.regs with a := BitVec.ofInt 8 ((s.regs.a.toNat : Int) - v.toNat - cin), f := fl v cin }, cost := cost }
    let cmp (u : State) (v : Byte) (cost : Nat) : State := { u with regs := { s.regs with f := fl v 0 }, cost := cost }
    (encode (.aluR .sub r) = [0b10010#5 ++ r.code] ∧ encode (.aluM .sub) = [0x96] ∧ encode (.aluN .sub n) = [0xD6, n]
      ∧ encode (.aluR .sbc r) = [0b10011#5 ++ r.code] ∧ encode (.aluM .sbc) = [0x9E] ∧ encode (.aluN .sbc n) = [0xDE, n]
      ∧ encode (.aluR .cp r) = [0b10111#5 ++ r.code] ∧ encode (.aluM .cp) = [0xBE] ∧ encode (.aluN .cp n) = [0xFE, n])
    ∧ exec (.aluR .sub r) s = .next (after s (s.regs.get8 r) 0 4)
    ∧ exec (.aluM .sub) s = .next (after (s.touch8 s.regs.hl) (s.read8 s.regs.hl) 0 8)
    ∧ exec (.aluN .sub n) s = .next (after s n 0 8)
    ∧ exec (.aluR .sbc r) s = .next (after s (s.regs.get8 r) s.regs.f.cf.toNat 4)
    ∧ exec (.aluM .sbc) s = .next (after (s.touch8 s.regs.hl) (s.read8 s.regs.hl) s.regs.f.cf.toNat 8)
    ∧ exec (.aluN .sbc n) s = .next (after s n s.regs.f.cf.toNat 8)
    ∧ exec (.aluR .cp r) s = .next (cmp s (s.regs.get8 r) 4)
    ∧ exec (.aluM .cp) s = .next (cmp (s.touch8 s.regs.hl) (s.read8 s.regs.hl) 8)
    ∧ exec (.aluN .cp n) s = .next (cmp s n 8)

/-- R256, R272 to R280: `Hf` is 1 for `AND`, 0 for `XOR` and `OR`; `Nf` and `Cf` are cleared.
Choices of the spec that it rests on: D1. -/
def Obligations.AndXorOr : Prop :=
  ∀ (s : State) (r : Reg8) (n : Byte),
    let after (u : State) (res : Byte) (h : Bool) (cost : Nat) : State :=
      { u with
        regs := { s.regs with a := res, f := { zf := decide (res = 0), nf := false, hf := h, cf := false } }, cost := cost }
    let m := s.read8 s.regs.hl
    (encode (.aluR .and r) = [0b10100#5 ++ r.code] ∧ encode (.aluM .and) = [0xA6] ∧ encode (.aluN .and n) = [0xE6, n]
      ∧ encode (.aluR .xor r) = [0b10101#5 ++ r.code] ∧ encode (.aluM .xor) = [0xAE] ∧ encode (.aluN .xor n) = [0xEE, n]
      ∧ encode (.aluR .or r) = [0b10110#5 ++ r.code] ∧ encode (.aluM .or) = [0xB6] ∧ encode (.aluN .or n) = [0xF6, n])
    ∧ exec (.aluR .and r) s = .next (after s (s.regs.a &&& s.regs.get8 r) true 4)
    ∧ exec (.aluM .and) s = .next (after (s.touch8 s.regs.hl) (s.regs.a &&& m) true 8)
    ∧ exec (.aluN .and n) s = .next (after s (s.regs.a &&& n) true 8)
    ∧ exec (.aluR .xor r) s = .next (after s (s.regs.a ^^^ s.regs.get8 r) false 4)
    ∧ exec (.aluM .xor) s = .next (after (s.touch8 s.regs.hl) (s.regs.a ^^^ m) false 8)
    ∧ exec (.aluN .xor n) s = .next (after s (s.regs.a ^^^ n) false 8)
    ∧ exec (.aluR .or r) s = .next (after s (s.regs.a ||| s.regs.get8 r) false 4)
    ∧ exec (.aluM .or) s = .next (after (s.touch8 s.regs.hl) (s.regs.a ||| m) false 8)
    ∧ exec (.aluN .or n) s = .next (after s (s.regs.a ||| n) false 8)

/-- R284 to R287: `Cf` is not written. The memory forms read once and then store the result at the same address.
Choices of the spec that it rests on: D1. -/
def Obligations.IncAndDec : Prop :=
  ∀ (s : State) (r : Reg8),
    let inc (v : Byte) : Flags :=
      { s.regs.f with zf := decide (v + 1 = 0), nf := false, hf := decide (v.toNat % 16 = 0x0F) }
    let dec (v : Byte) : Flags :=
      { s.regs.f with zf := decide (v - 1 = 0), nf := true, hf := decide (v.toNat % 16 = 0) }
    let v := s.regs.get8 r
    let m := s.read8 s.regs.hl
    (encode (.incR r) = [0b00#2 ++ r.code ++ 0b100#3] ∧ encode .inc_mHL = [0x34]
      ∧ encode (.decR r) = [0b00#2 ++ r.code ++ 0b101#3] ∧ encode .dec_mHL = [0x35])
    ∧ exec (.incR r) s = .next { s with regs := { s.regs.set8 r (v + 1) with f := inc v }, cost := 4 }
    ∧ exec .inc_mHL s
        = .next { (s.touch8 s.regs.hl).write8 s.regs.hl (m + 1) with regs := { s.regs with f := inc m }, cost := 12 }
    ∧ exec (.decR r) s = .next { s with regs := { s.regs.set8 r (v - 1) with f := dec v }, cost := 4 }
    ∧ exec .dec_mHL s
        = .next { (s.touch8 s.regs.hl).write8 s.regs.hl (m - 1) with regs := { s.regs with f := dec m }, cost := 12 }

/-- R288.
Choices of the spec that it rests on: D1. -/
def Obligations.DecimalAdjust : Prop :=
  ∀ s : State,
    let a := s.regs.a.toNat
    let f := s.regs.f
    let corr := (if f.hf = true ∨ (f.nf = false ∧ a % 16 > 0x09) then 0x06 else 0)
      + (if f.cf = true ∨ (f.nf = false ∧ a > 0x99) then 0x60 else 0)
    let res : Byte := BitVec.ofInt 8 (if f.nf then (a : Int) - (corr : Nat) else (a : Int) + (corr : Nat))
    encode .daa = [0x27]
    ∧ exec .daa s
        = .next { s with
            regs := { s.regs with
              a := res
              f := { zf := decide (res = 0), nf := f.nf, hf := false
                     cf := decide (f.cf = true ∨ (f.nf = false ∧ a > 0x99)) } }
            cost := 4 }

/-- What `DAA` is for: after `ADD` or `SUB` of two packed BCD bytes it gives the packed BCD sum or difference modulo 100, with
`Cf` the decimal carry or borrow.
Choices of the spec that it rests on: D1. -/
def Obligations.DecimalAdjustCorrectsBcd : Prop :=
  ∀ (s : State) (x y : Nat), x < 100 → y < 100 →
    let bcd (k : Nat) : Byte := BitVec.ofNat 8 (k / 10 * 16 + k % 10)
    s.regs.a = bcd x →
      (∃ t u, exec (.aluN .add (bcd y)) s = .next t ∧ exec .daa t = .next u
        ∧ u.regs.a = bcd ((x + y) % 100) ∧ u.regs.f.cf = decide (x + y ≥ 100))
      ∧ ∃ t u, exec (.aluN .sub (bcd y)) s = .next t ∧ exec .daa t = .next u
        ∧ u.regs.a = bcd ((x + 100 - y) % 100) ∧ u.regs.f.cf = decide (x < y)

/-- R289 to R291 and R310 to R312. `Zf` is written by none of them; `INC rp` and `DEC rp` write no flag.
Choices of the spec that it rests on: D1. -/
def Obligations.FlagAdjustersAndWordArithmetic : Prop :=
  ∀ (s : State) (p : Pair),
    let f := s.regs.f
    let a := s.regs.hl.toNat
    let b := (s.regs.getPair p).toNat
    (encode .cpl = [0x2F] ∧ encode .scf = [0x37] ∧ encode .ccf = [0x3F]
      ∧ encode (.addHlRp p) = [0b00#2 ++ p.code ++ 0b1001#4] ∧ encode (.incRp p) = [0b00#2 ++ p.code ++ 0b0011#4]
      ∧ encode (.decRp p) = [0b00#2 ++ p.code ++ 0b1011#4])
    ∧ exec .cpl s = .next { s with regs := { s.regs with a := s.regs.a ^^^ 0xFF, f := ⟨f.zf, true, true, f.cf⟩ }, cost := 4 }
    ∧ exec .scf s = .next { s with regs := { s.regs with f := ⟨f.zf, false, false, true⟩ }, cost := 4 }
    ∧ exec .ccf s = .next { s with regs := { s.regs with f := ⟨f.zf, false, false, !f.cf⟩ }, cost := 4 }
    ∧ exec (.addHlRp p) s
        = .next { s with
            regs := { s.regs with
              h := BitVec.ofNat 8 ((a + b) / 256), l := BitVec.ofNat 8 (a + b)
              f := ⟨f.zf, false, decide (a % 4096 + b % 4096 > 0x0FFF), decide (a + b > 0xFFFF)⟩ }
            cost := 8 }
    ∧ exec (.incRp p) s = .next { s with regs := s.regs.setPair p (s.regs.getPair p + 1), cost := 8 }
    ∧ exec (.decRp p) s = .next { s with regs := s.regs.setPair p (s.regs.getPair p - 1), cost := 8 }

/-! ### Rotates, shifts and bits (spec/44_rotate_shift_bit.md) -/

/-- R320 to R331: the accumulator rotates clear `Zf`; those of the secondary table, on a register and on the byte at `HL`,
compute it. `RL` and `RR` rotate nine bits, the carry among them.
Choices of the spec that it rests on: D1. -/
def Obligations.Rotates : Prop :=
  ∀ s : State,
    let a := s.regs.a
    let cf := s.regs.f.cf
    let after (res : Byte) (c : Bool) : State :=
      { s with regs := { s.regs with a := res, f := ⟨false, false, false, c⟩ }, cost := 4 }
    let form (op : RotOp) (res : Byte → Byte) (c : Byte → Bool) : Prop :=
      (∀ r : Reg8,
        encode (.rotR op r) = [0xCB, 0b00#2 ++ op.code ++ r.code]
        ∧ exec (.rotR op r) s
            = .next { s with
                regs := { s.regs.set8 r (res (s.regs.get8 r)) with
                  f := ⟨decide (res (s.regs.get8 r) = 0), false, false, c (s.regs.get8 r)⟩ }
                cost := 8 })
      ∧ encode (.rotM op) = [0xCB, 0b00#2 ++ op.code ++ 0b110#3]
      ∧ exec (.rotM op) s
          = .next { (s.touch8 s.regs.hl).write8 s.regs.hl (res (s.read8 s.regs.hl)) with
              regs := { s.regs with
                f := ⟨decide (res (s.read8 s.regs.hl) = 0), false, false, c (s.read8 s.regs.hl)⟩ }
              cost := 16 }
    (encode .rlca = [0x07] ∧ encode .rrca = [0x0F] ∧ encode .rla = [0x17] ∧ encode .rra = [0x1F])
    ∧ exec .rlca s = .next (after (a.rotateLeft 1) (a.getLsbD 7))
    ∧ exec .rrca s = .next (after (a.rotateRight 1) (a.getLsbD 0))
    ∧ exec .rla s = .next (after (BitVec.ofNat 8 (2 * a.toNat + cf.toNat)) (a.getLsbD 7))
    ∧ exec .rra s = .next (after (BitVec.ofNat 8 (a.toNat / 2 + 128 * cf.toNat)) (a.getLsbD 0))
    ∧ form .rlc (fun v => v.rotateLeft 1) (fun v => v.getLsbD 7)
    ∧ form .rrc (fun v => v.rotateRight 1) (fun v => v.getLsbD 0)
    ∧ form .rl (fun v => BitVec.ofNat 8 (2 * v.toNat + cf.toNat)) (fun v => v.getLsbD 7)
    ∧ form .rr (fun v => BitVec.ofNat 8 (v.toNat / 2 + 128 * cf.toNat)) (fun v => v.getLsbD 0)

/-- R332 to R339: the shifts and `SWAP`.
Choices of the spec that it rests on: D1. -/
def Obligations.SecondaryShifts : Prop :=
  ∀ s : State,
    let form (op : RotOp) (res : Byte → Byte) (c : Byte → Bool) : Prop :=
      (∀ r : Reg8,
        encode (.rotR op r) = [0xCB, 0b00#2 ++ op.code ++ r.code]
        ∧ exec (.rotR op r) s
            = .next { s with
                regs := { s.regs.set8 r (res (s.regs.get8 r)) with
                  f := ⟨decide (res (s.regs.get8 r) = 0), false, false, c (s.regs.get8 r)⟩ }
                cost := 8 })
      ∧ encode (.rotM op) = [0xCB, 0b00#2 ++ op.code ++ 0b110#3]
      ∧ exec (.rotM op) s
          = .next { (s.touch8 s.regs.hl).write8 s.regs.hl (res (s.read8 s.regs.hl)) with
              regs := { s.regs with
                f := ⟨decide (res (s.read8 s.regs.hl) = 0), false, false, c (s.read8 s.regs.hl)⟩ }
              cost := 16 }
    form .sla (fun v => BitVec.ofNat 8 (2 * v.toNat)) (fun v => v.getLsbD 7)
    ∧ form .sra (fun v => v.sshiftRight 1) (fun v => v.getLsbD 0)
    ∧ form .swap (fun v => v.extractLsb' 0 4 ++ v.extractLsb' 4 4) (fun _ => false)
    ∧ form .srl (fun v => BitVec.ofNat 8 (v.toNat / 2)) (fun v => v.getLsbD 0)

/-- R340 to R345: `BIT` writes three flags and nothing else; `RES` and `SET` write no flag, and every other bit of the operand
keeps its value.
Choices of the spec that it rests on: D1. -/
def Obligations.BitInstructions : Prop :=
  ∀ (s : State) (b : Fin 8) (r : Reg8),
    let fl (v : Byte) : Flags := ⟨decide (v.toNat / 2 ^ b.val % 2 = 0), false, true, s.regs.f.cf⟩
    let res (v : Byte) : Byte := v &&& (0xFF ^^^ (1#8 <<< b.val))
    let set (v : Byte) : Byte := v ||| (1#8 <<< b.val)
    (∀ (v : Byte) (k : Fin 8), (res v).getLsbD k.val = (decide (k ≠ b) && v.getLsbD k.val)
      ∧ (set v).getLsbD k.val = (decide (k = b) || v.getLsbD k.val))
    ∧ encode (.bitR b r) = [0xCB, 0b01#2 ++ BitVec.ofNat 3 b.val ++ r.code]
    ∧ exec (.bitR b r) s = .next { s with regs := { s.regs with f := fl (s.regs.get8 r) }, cost := 8 }
    ∧ encode (.bitM b) = [0xCB, 0b01#2 ++ BitVec.ofNat 3 b.val ++ 0b110#3]
    ∧ exec (.bitM b) s
        = .next { s.touch8 s.regs.hl with regs := { s.regs with f := fl (s.read8 s.regs.hl) }, cost := 12 }
    ∧ encode (.resR b r) = [0xCB, 0b10#2 ++ BitVec.ofNat 3 b.val ++ r.code]
    ∧ exec (.resR b r) s = .next { s with regs := s.regs.set8 r (res (s.regs.get8 r)), cost := 8 }
    ∧ encode (.resM b) = [0xCB, 0b10#2 ++ BitVec.ofNat 3 b.val ++ 0b110#3]
    ∧ exec (.resM b) s
        = .next { (s.touch8 s.regs.hl).write8 s.regs.hl (res (s.read8 s.regs.hl)) with cost := 16 }
    ∧ encode (.setR b r) = [0xCB, 0b11#2 ++ BitVec.ofNat 3 b.val ++ r.code]
    ∧ exec (.setR b r) s = .next { s with regs := s.regs.set8 r (set (s.regs.get8 r)), cost := 8 }
    ∧ encode (.setM b) = [0xCB, 0b11#2 ++ BitVec.ofNat 3 b.val ++ 0b110#3]
    ∧ exec (.setM b) s
        = .next { (s.touch8 s.regs.hl).write8 s.regs.hl (set (s.read8 s.regs.hl)) with cost := 16 }

/-! ### Control transfer (spec/45_control_transfer.md) -/

/-- R360 to R364. `PC` in `s` is already past the instruction. A condition that fails leaves `PC` there.
Choices of the spec that it rests on: D1. -/
def Obligations.Jumps : Prop :=
  ∀ (s : State) (cc : Cond) (nn : Word) (e : Byte),
    let f := s.regs.f
    let go (pc : Word) (cost : Nat) : State := { s with regs := { s.regs with pc := pc }, cost := cost }
    let taken : Bool := match cc with | .nz => !f.zf | .z => f.zf | .nc => !f.cf | .c => f.cf
    let rel : Word :=
      BitVec.ofInt 16 ((s.regs.pc.toNat : Int) + (if e.toNat < 0x80 then (e.toNat : Int) else (e.toNat : Int) - 256))
    (encode (.jp_nn nn) = [0xC3, loByte nn, hiByte nn]
      ∧ encode (.jpCc cc nn) = [0b110#3 ++ cc.code ++ 0b010#3, loByte nn, hiByte nn]
      ∧ encode .jp_HL = [0xE9] ∧ encode (.jr_e e) = [0x18, e] ∧ encode (.jrCc cc e) = [0b001#3 ++ cc.code ++ 0b000#3, e])
    ∧ exec (.jp_nn nn) s = .next (go nn 16)
    ∧ exec (.jpCc cc nn) s = .next (if taken then go nn 16 else go s.regs.pc 12)
    ∧ exec .jp_HL s = .next (go s.regs.hl 4)
    ∧ exec (.jr_e e) s = .next (go rel 12)
    ∧ exec (.jrCc cc e) s = .next (if taken then go rel 12 else go s.regs.pc 8)

/-- R365, R366, R370: the return address is pushed high byte first. A failed condition pushes nothing.
Choices of the spec that it rests on: D1. -/
def Obligations.CallsAndRestarts : Prop :=
  ∀ (s : State) (cc : Cond) (nn : Word) (y : Fin 8),
    let f := s.regs.f
    let taken : Bool := match cc with | .nz => !f.zf | .z => f.zf | .nc => !f.cf | .c => f.cf
    let call (target : Word) (cost : Nat) : State :=
      { (s.write8 (s.regs.sp - 1) (hiByte s.regs.pc)).write8 (s.regs.sp - 2) (loByte s.regs.pc) with
        regs := { s.regs with sp := s.regs.sp - 2, pc := target }, cost := cost }
    (encode (.call_nn nn) = [0xCD, loByte nn, hiByte nn]
      ∧ encode (.callCc cc nn) = [0b110#3 ++ cc.code ++ 0b100#3, loByte nn, hiByte nn]
      ∧ encode (.rst y) = [0b11#2 ++ BitVec.ofNat 3 y.val ++ 0b111#3])
    ∧ exec (.call_nn nn) s = .next (call nn 24)
    ∧ exec (.callCc cc nn) s = .next (if taken then call nn 24 else { s with cost := 12 })
    ∧ exec (.rst y) s = .next (call (BitVec.ofNat 16 (8 * y.val)) 16)

/-- R367 to R369: `PC` is popped; `RETI` sets `IME` at once and leaves `ei_pending`.
Choices of the spec that it rests on: D1, D14. -/
def Obligations.Returns : Prop :=
  ∀ (s : State) (cc : Cond),
    let f := s.regs.f
    let taken : Bool := match cc with | .nz => !f.zf | .z => f.zf | .nc => !f.cf | .c => f.cf
    let back (cost : Nat) : State :=
      { (s.touch8 s.regs.sp).touch8 (s.regs.sp + 1) with
        regs := { s.regs with pc := s.read8 (s.regs.sp + 1) ++ s.read8 s.regs.sp, sp := s.regs.sp + 2 }, cost := cost }
    (encode .ret = [0xC9] ∧ encode (.retCc cc) = [0b110#3 ++ cc.code ++ 0b000#3] ∧ encode .reti = [0xD9])
    ∧ exec .ret s = .next (back 16)
    ∧ exec (.retCc cc) s = .next (if taken then back 20 else { s with cost := 8 })
    ∧ exec .reti s = .next { back 16 with ime := true }

/-! ### System instructions and unmapped bytes (spec/46_system.md) -/

/-- The Operation, Encoding and Cycles lines of R380 to R384.
Choices of the spec that it rests on: D1, D11, D12, D13, D14. -/
def Obligations.EngineInstructions : Prop :=
  ∀ (s : State) (pad : Byte),
    (encode .nop = [0x00] ∧ encode (.stop pad) = [0x10, pad] ∧ encode .halt = [0x76] ∧ encode .di = [0xF3] ∧ encode .ei = [0xFB])
    ∧ exec .nop s = .next { s with cost := 4 }
    ∧ exec (.stop pad) s = .next { s with halted := true, cost := 4 }
    ∧ exec .halt s
        = .next (if s.ime = false ∧ s.ie.setWidth 5 &&& s.iflag ≠ 0#5 then { s with haltBug := true, cost := 4 }
            else { s with halted := true, cost := 4 })
    ∧ exec .di s = .next { s with ime := false, eiPending := false, cost := 4 }
    ∧ exec .ei s = .next { s with eiPending := true, cost := 4 }

/-- R385, R347: the escape byte and the byte after it are one instruction, the entry of the secondary table, at that entry's
cost; the two bytes are fetched in one step.
Choices of the spec that it rests on: D7. -/
def Obligations.EscapeByteRunsSecondaryTable : Prop :=
  (∀ (op2 : Byte) (s : State), exec (.escape_CB op2) s = exec (secondary op2) s)
  ∧ (∀ (op2 : Byte) (rest : List Byte), decode (0xCB :: op2 :: rest) = .ok (secondary op2, rest))
  ∧ (∀ s : State, s.fetchByte = 0xCB → s.fetchInstr = (secondary s.fetched.fetchByte, s.fetched.fetched))
  ∧ ∀ (op2 : Byte) (s : State), ∃ t, exec (secondary op2) s = .next t
      ∧ t.cost = if fieldZ op2 ≠ 6 then 8 else if fieldX op2 = 1 then 12 else 16

/-- R390, R410: the step that fetches an unmapped byte ends with the outcome Fault, its address and the byte, at cost 0, with no
peripheral advanced; no register, flag, memory cell, `IME` or `IF` changes, and the next step reports the same fault. Choices of
the model: the outcome carries the state it leaves (log entry 9), and the read of the byte may advance the cartridge clock, as
any read (log entry 14).
Choices of the spec that it rests on: D10, D11, D40. -/
def Obligations.UnmappedBytesFault : Prop :=
  (∀ s : State,
    let ends (op : Byte) : Result :=
      .fault (.decodeFault s.regs.pc op { s with fault := some (s.regs.pc, op), cost := 0 })
    exec .illegal_D3 s = ends 0xD3 ∧ exec .illegal_DB s = ends 0xDB ∧ exec .illegal_DD s = ends 0xDD
    ∧ exec .illegal_E3 s = ends 0xE3 ∧ exec .illegal_E4 s = ends 0xE4 ∧ exec .illegal_EB s = ends 0xEB
    ∧ exec .illegal_EC s = ends 0xEC ∧ exec .illegal_ED s = ends 0xED ∧ exec .illegal_F4 s = ends 0xF4
    ∧ exec .illegal_FC s = ends 0xFC ∧ exec .illegal_FD s = ends 0xFD)
  ∧ ∀ s : State, s.hostPhase.Fetches → s.hostPhase.fetchByte ∈ unmappedBytes →
      let h := s.hostPhase
      let op := h.read8 h.regs.pc
      let t : State := { h.touch8 h.regs.pc with halted := false, fault := some (h.regs.pc, op), cost := 0 }
      step s = .fault (.decodeFault h.regs.pc op t)
      ∧ step t = .fault (.decodeFault h.regs.pc op { t.hostPhase with cost := 0 })

/-! ### Whole-engine rules -/

/-- Every instruction but the eleven unmapped bytes completes from every state. A step stops only where it fetches an unmapped
byte, or where a fault is recorded already: then it makes the host's calls due (R19, R541), reports the same fault and changes
nothing else (R400, R410, R411). It never refuses. That a fault outcome carries a state from which the calls and the steps go on
is the model's choice (log entry 9).
Choices of the spec that it rests on: D1, D10, D11, D40. -/
def Obligations.OnlyRecordedFaultsStop : Prop :=
  (∀ (i : Instr) (s : State), i.unmapped = false → ∃ t, exec i s = .next t)
  ∧ (∀ s : State, s.fault = none → ¬ (s.hostPhase.Fetches ∧ s.hostPhase.fetchByte ∈ unmappedBytes) → ∃ t, step s = .next t)
  ∧ (∀ (s : State) (pc : Word) (op : Byte), s.fault = some (pc, op) →
    step s = .fault (.decodeFault pc op { s.hostPhase with cost := 0 }))
  ∧ ∀ (s : State) (r : Refusal), step s ≠ .refused r

/-- When the bytes at `PC` decode to an instruction `i`, a step that fetches is `exec i` on the state with those bytes fetched
and `PC` past them, then the deferred enable, then the three peripherals by the cost (R400, R404, R405, R440). The host's
calls due before the step are made first.
Choices of the spec that it rests on: D1, D10, D11, D14, D40. -/
def Obligations.StepRunsDecodedInstruction : Prop :=
  ∀ (s t : State) (i : Instr) (rest : List Byte),
    let h := s.hostPhase
    let pc := h.regs.pc
    let len := 3 - rest.length
    h.Fetches → h.haltBug = false → h.read8 pc ∉ unmappedBytes →
    decode [h.read8 pc, h.read8 (pc + 1), h.read8 (pc + 2)] = .ok (i, rest) →
    exec i (({ h with halted := false }.touchRange pc len).setPc (pc + BitVec.ofNat 16 len)) = .next t →
      let v := if h.eiPending ∧ t.eiPending then { t with ime := true, eiPending := false } else t
      step s = .next (((v.timerAdvance t.cost).ppuAdvance t.cost).apuAdvance t.cost)

/-- R9, R38, R381: with the halt bug armed the opcode fetch does not advance `PC` and disarms it, so the byte at `PC` is the
opcode and, if the opcode takes operands, the first of them too: for every form of an opcode, the instruction fetched and the
state after the fetch. An unmapped byte leaves the bug armed (R390). A step that fetches with the bug armed runs that
instruction, then the deferred enable, then the peripherals.
Choices of the spec that it rests on: D1, D10, D11, D12, D14, D40. -/
def Obligations.HaltBugRepeatsTheByte : Prop :=
  (∀ s : State, s.haltBug = true →
    let b := s.fetchByte
    let pc := s.regs.pc
    let once := { s.touch8 pc with haltBug := false }
    let twice := (once.touch8 pc).setPc (pc + 1)
    s.fetched = once ∧ s.fetched.fetchByte = b
    ∧ (∀ i, primary b = .op i → s.fetchInstr = (i, once))
    ∧ (∀ f, primary b = .opN f → s.fetchInstr = (f b, twice))
    ∧ (∀ f, primary b = .opE f → s.fetchInstr = (f b, twice))
    ∧ (∀ f, primary b = .opX f → s.fetchInstr = (f b, twice))
    ∧ (∀ f, primary b = .opNN f →
      s.fetchInstr = (f (s.read8 (pc + 1) ++ b), ((once.touch8 pc).touch8 (pc + 1)).setPc (pc + 2)))
    ∧ (b = 0xCB → s.fetchInstr = (.set_1_E, twice))
    ∧ (∀ i, primary b = .illegal i → s.fetchInstr = (i, s.touch8 pc)))
  ∧ ∀ s t : State, s.hostPhase.Fetches → s.hostPhase.haltBug = true → s.hostPhase.fetchByte ∉ unmappedBytes →
    let h := { s.hostPhase with halted := false }
    exec h.fetchInstr.1 h.fetchInstr.2 = .next t →
      let v := if h.eiPending ∧ t.eiPending then { t with ime := true, eiPending := false } else t
      step s = .next (((v.timerAdvance t.cost).ppuAdvance t.cost).apuAdvance t.cost)

/-- R400, R401, R403: a stalled step consumes the stall as its cost; a waiting step with nothing pending and enabled costs 4. Both
change nothing else in the engine, and the peripherals advance by the cost.
Choices of the spec that it rests on: D11, D15, D40. -/
def Obligations.StalledAndWaitingSteps : Prop :=
  ∀ s : State, s.hostPhase.fault = none →
    let h := s.hostPhase
    (h.dmaStall ≠ 0 →
      step s = .next (({ h with dmaStall := 0, cost := h.dmaStall }.timerAdvance h.dmaStall |>.ppuAdvance h.dmaStall).apuAdvance
        h.dmaStall))
    ∧ (h.dmaStall = 0 → h.halted = true → h.pend = 0 →
      step s = .next (({ h with cost := 4 }.timerAdvance 4 |>.ppuAdvance 4).apuAdvance 4))

/-- R420 to R424: with `IME` set and something pending and enabled, the step services the lowest-numbered source `i`: its bit and
`IME` are cleared, the wait state ends, `PC` is pushed, `PC` becomes `0x0040 + 8 × i`, the cost is 20.
Choices of the spec that it rests on: D6. -/
def Obligations.InterruptService : Prop :=
  ∀ (s : State) (i : Fin 5),
    let h := s.hostPhase
    h.fault = none → h.dmaStall = 0 → h.ime = true →
    (h.ie.getLsbD i.val = true ∧ h.iflag.getLsbD i.val = true) →
    (∀ j : Fin 5, j < i → ¬ (h.ie.getLsbD j.val = true ∧ h.iflag.getLsbD j.val = true)) →
      let w := { h with iflag := h.iflag &&& ~~~(1#5 <<< i.val), ime := false, halted := false }
      let p := (w.write8 (h.regs.sp - 1) (hiByte h.regs.pc)).write8 (h.regs.sp - 2) (loByte h.regs.pc)
      let v : State :=
        { p with regs := { h.regs with sp := h.regs.sp - 2, pc := BitVec.ofNat 16 (0x0040 + 8 * i.val) }, cost := 20 }
      step s = .next (((v.timerAdvance 20).ppuAdvance 20).apuAdvance 20)

/-- R384, R405, R383: after `EI` the enable waits for exactly one executed instruction: `EI` itself leaves `IME`, the step that
executes the next instruction ends with `IME = 1`, unless that instruction is `DI`, which cancels it.
Choices of the spec that it rests on: D14. -/
def Obligations.EnableIsDeferredByOneInstruction : Prop :=
  ∀ s t : State, s.hostPhase.Fetches → s.hostPhase.fetchByte ∉ unmappedBytes → step s = .next t →
    let h := s.hostPhase
    (h.eiPending = false → h.fetchInstr.1 = .ei → t.ime = h.ime ∧ t.eiPending = true)
    ∧ (h.eiPending = true → h.fetchInstr.1 ≠ .di → t.ime = true ∧ t.eiPending = false)
    ∧ (h.fetchInstr.1 = .di → t.ime = false ∧ t.eiPending = false)

/-- An instruction that does not act on the engine leaves `IME`, the wait state, the halt bug, `ei_pending` and `fault`, the boot
image and the parameters: only `HALT`, `STOP`, `DI`, `EI`, `RETI` and the unmapped bytes change any of them.
Choices of the spec that it rests on: D1, D4, D10, D11, D12, D13, D14. -/
def Obligations.OnlyEngineInstructionsChangeTheEngine : Prop :=
  ∀ (i : Instr) (s t : State), i.onEngine = false → exec i s = .next t →
    t.ime = s.ime ∧ t.halted = s.halted ∧ t.haltBug = s.haltBug ∧ t.eiPending = s.eiPending ∧ t.fault = s.fault
      ∧ t.bootImage = s.bootImage ∧ t.par = s.par

/-- An instruction with no `MemWrite` and no `Push16` leaves every byte of memory and every register and latch of a peripheral,
whether it completes or ends in the fault of an unmapped byte; only the clock of the cartridge, with its anchor and the host's
clock record, may have moved on.
Choices of the spec that it rests on: D1. -/
def Obligations.NonStoringInstructionsLeaveMemory : Prop :=
  ∀ (i : Instr) (s t : State), i.stores = false → stateAfter (exec i s) = some t →
    (∀ a, t.read8 a = s.read8 a)
    ∧ t.vram = s.vram ∧ t.wram = s.wram ∧ t.oam = s.oam ∧ t.hram = s.hram
    ∧ t.cart = { s.cart with rtc := t.cart.rtc, rtcAnchor := t.cart.rtcAnchor }
    ∧ t.ie = s.ie ∧ t.iflag = s.iflag ∧ t.dmaReg = s.dmaReg ∧ t.dmaStall = s.dmaStall ∧ t.bootMapped = s.bootMapped
    ∧ t.bootImage = s.bootImage ∧ t.par = s.par
    ∧ t.timer = s.timer ∧ t.input = s.input ∧ t.serial = s.serial ∧ t.ppu = s.ppu ∧ t.apu = s.apu
    ∧ t.host = { s.host with now := t.host.now, nowReads := t.host.nowReads }

/-! ### Memory (spec/20_memory.md) -/

/-- R84, R113: a read changes nothing, but that a read in the cartridge RAM window with a clock register selected and the RAM
enabled advances the live clock; no byte any read returns changes by it. -/
def Obligations.ReadsChangeOnlyTheClock : Prop :=
  ∀ (s : State) (a : Word),
    (¬ (0xA000 ≤ a.toNat ∧ a.toNat < 0xC000 ∧ s.cart.kind = .mbc3Rtc ∧ s.cart.ramEnable = true
        ∧ 8 ≤ s.cart.ramSel.toNat ∧ s.cart.ramSel.toNat ≤ 12) → s.touch8 a = s)
    ∧ (∃ (now reads anchor : Nat) (r : Rtc), s.touch8 a
        = { s with
            host := { s.host with now := now, nowReads := reads }
            cart := { s.cart with rtc := r, rtcAnchor := anchor } })
    ∧ ∀ b, (s.touch8 a).read8 b = s.read8 b

/-- R89, R91, R92, R96: what video, work, echo and high RAM read, and that a store there changes exactly the bytes that reach the
same cell, and nothing else of the state.
Choices of the spec that it rests on: D4, D24. -/
def Obligations.RamStoreChangesOneCell : Prop :=
  (∀ (s : State) (a : Word),
    (0x8000 ≤ a.toNat → a.toNat < 0xA000 → s.read8 a = s.vram.read (a.toNat - 0x8000))
    ∧ (0xC000 ≤ a.toNat → a.toNat < 0xE000 → s.read8 a = s.wram.read (a.toNat - 0xC000))
    ∧ (0xE000 ≤ a.toNat → a.toNat < 0xFE00 → s.read8 a = s.wram.read (a.toNat - 0xE000))
    ∧ (0xFF80 ≤ a.toNat → a.toNat < 0xFFFF → s.read8 a = s.hram.read (a.toNat - 0xFF80)))
  ∧ ∀ (s : State) (a b : Word) (v : Byte), s.vram.wf → s.wram.wf → s.hram.wf → isRam a →
    (s.write8 a v).read8 b = (if ramCell b = ramCell a then v else s.read8 b)
    ∧ s.write8 a v
        = { s with vram := (s.write8 a v).vram, wram := (s.write8 a v).wram, hram := (s.write8 a v).hram }

/-- R93, R94, R97: locked object memory, the reserved range and the unmapped ports read 0xFF and ignore writes; object memory
that is not locked reads and stores.
Choices of the spec that it rests on: D4, D39. -/
def Obligations.LockedAndUnmappedAddresses : Prop :=
  ∀ (s : State) (a : Word) (v : Byte),
    (0xFE00 ≤ a.toNat → a.toNat < 0xFEA0 →
      (s.ppu.lcdc.getLsbD 7 = true ∧ (s.ppu.mode = .oamScan ∨ s.ppu.mode = .transfer) →
        s.read8 a = 0xFF ∧ s.write8 a v = s)
      ∧ (¬ (s.ppu.lcdc.getLsbD 7 = true ∧ (s.ppu.mode = .oamScan ∨ s.ppu.mode = .transfer)) →
        s.read8 a = s.oam.read (a.toNat - 0xFE00)
        ∧ s.write8 a v = { s with oam := s.oam.write (a.toNat - 0xFE00) v }))
    ∧ (((0xFEA0 ≤ a.toNat ∧ a.toNat < 0xFF00) ∨ a = 0xFF03 ∨ (0xFF08 ≤ a.toNat ∧ a.toNat ≤ 0xFF0E) ∨ a = 0xFF15 ∨ a = 0xFF1F
        ∨ (0xFF27 ≤ a.toNat ∧ a.toNat ≤ 0xFF2F) ∨ (0xFF4C ≤ a.toNat ∧ a.toNat ≤ 0xFF4F)
        ∨ (0xFF51 ≤ a.toNat ∧ a.toNat ≤ 0xFF7F)) →
      s.read8 a = 0xFF ∧ s.write8 a v = s)

/-- R120 to R122: a write of the DMA port copies 160 bytes from the page into object memory, lock or not, and sets the stall;
nothing else changes but, where the page lies in the cartridge RAM window with a clock register selected, the live clock with its
anchor and the host's clock record (R113).
Choices of the spec that it rests on: D15. -/
def Obligations.DmaCopiesThePage : Prop :=
  ∀ (s : State) (v : Byte), s.oam.wf →
    let t := s.write8 0xFF46 v
    (∀ i, i < 160 → t.oam.read i = s.read8 (BitVec.ofNat 16 (v.toNat * 256 + i)))
    ∧ (∀ i, 160 ≤ i → t.oam.read i = s.oam.read i)
    ∧ t.read8 0xFF46 = v
    ∧ t = { s with
          oam := t.oam
          dmaReg := v
          dmaStall := 640
          cart := { s.cart with rtc := t.cart.rtc, rtcAnchor := t.cart.rtcAnchor }
          host := { s.host with now := t.host.now, nowReads := t.host.nowReads } }

/-- R13, R55, R87, R88, R510: what no step changes; the boot overlay, which a step may unmap and none maps; what the overlay
reads while it is mapped; and the port that unmaps it, by bit 0 of the byte alone.
Choices of the spec that it rests on: D4, D5, D20. -/
def Obligations.ImagesStayAndOverlayIsOneWay : Prop :=
  (∀ s t : State, stateAfter (step s) = some t →
    t.cart.rom = s.cart.rom ∧ t.cart.romSize = s.cart.romSize ∧ t.cart.kind = s.cart.kind
    ∧ t.cart.romBanks = s.cart.romBanks ∧ t.cart.ramBanks = s.cart.ramBanks ∧ t.bootImage = s.bootImage ∧ t.par = s.par
    ∧ (s.bootMapped = false → t.bootMapped = false))
  ∧ (∀ (s : State) (a : Word), s.bootMapped = true → a.toNat < 0x0100 →
    s.read8 a = s.bootImage.read a.toNat ∧ s.touch8 a = s)
  ∧ ∀ (s : State) (v : Byte),
    s.read8 0xFF50 = 0xFF ∧ s.write8 0xFF50 v = (if v.getLsbD 0 then { s with bootMapped := false } else s)

/-! ### Invariants -/

/-- The state after reset is a state of the invariant. (The values the spec leaves to the model, or marks as its own choice (D9), are those of log entries 1 to 5 and 10.) -/
def Obligations.ResetMeetsTheInvariant : Prop := Inv State.reset

/-- Every step, also one that ends in the fault of an unmapped byte, keeps every storage array canonical and of its size.
Choices of the spec that it rests on: D4, D21, D29. -/
def Obligations.StepKeepsMemory : Prop := ∀ s t : State, MemInv s → stateAfter (step s) = some t → MemInv t

/-- Every step keeps the scan position legal (R562, R563, R570, R572) and the buffers of their sizes (R552, R553).
Choices of the spec that it rests on: D25, D27, D28, D37. -/
def Obligations.StepKeepsDisplay : Prop :=
  ∀ s t : State, ScanInv s → BufferInv s → stateAfter (step s) = some t → ScanInv t ∧ BufferInv t

/-- Every step keeps the audio counters in their ranges, the frequency timer of every channel at most its largest period (for the
noise channel 112 × 2^15), and a switched-off audio processor at zero (R621 to R624, R652, R675 to R677, R680).
Choices of the spec that it rests on: D29, D31. -/
def Obligations.StepKeepsAudio : Prop := ∀ s t : State, ApuInv s → stateAfter (step s) = some t → ApuInv t

/-- Every step keeps the timer's sub-counter below its period, the clock's anchor in the past, and the engine's stalled and
waiting states apart (R431, R450, R521).
Choices of the spec that it rests on: D5, D16, D21. -/
def Obligations.StepKeepsTimerClockAndEngine : Prop :=
  ∀ s t : State, TimerInv s → CartInv s → EngineInv s → stateAfter (step s) = some t → TimerInv t ∧ CartInv t ∧ EngineInv t

/-! ### Timer, input, serial (spec/60_exceptions.md) -/

/-- R454, R455: the closed form of one batch of `n` cycles: the reload and the request that an overflow of the batch before left,
then one increment of `TIMA` for every whole period, modulo 256, an overflow being remembered for the next batch.
Choices of the spec that it rests on: D16. -/
def Obligations.TimerBatch : Prop :=
  ∀ (s : State) (n : Nat),
    let t := s.timer
    let base : Byte := if t.overflowPending then t.tma else t.tima
    let period : Nat := if t.tac.extractLsb' 0 2 = 0#2 then 1024 else if t.tac.extractLsb' 0 2 = 1#2 then 16
      else if t.tac.extractLsb' 0 2 = 2#2 then 64 else 256
    let k : Nat := if t.tac.getLsbD 2 then (t.tsub + n) / period else 0
    s.timerAdvance n
      = { s with
          iflag := if t.overflowPending then s.iflag ||| 0b00100#5 else s.iflag
          timer :=
            { sysclk := t.sysclk + BitVec.ofNat 16 n
              tsub := if t.tac.getLsbD 2 then (t.tsub + n) % period else t.tsub
              tima := BitVec.ofNat 8 (base.toNat + k)
              tma := t.tma
              tac := t.tac
              overflowPending := decide (base.toNat + k ≥ 256) } }

/-- R460, R462: the input register and the button ports. A line reads 0 if a selected group (select bit 0) has it pressed.
Choices of the spec that it rests on: D18. -/
def Obligations.InputRegisterAndButtons : Prop :=
  (∀ (s : State) (v : Byte),
    let p := s.input
    let line (direction face : Bool) : Bool := !((!p.sel.getLsbD 0 && direction) || (!p.sel.getLsbD 1 && face))
    (s.read8 0xFF00).getLsbD 7 = true ∧ (s.read8 0xFF00).getLsbD 6 = true
    ∧ (s.read8 0xFF00).getLsbD 5 = p.sel.getLsbD 1 ∧ (s.read8 0xFF00).getLsbD 4 = p.sel.getLsbD 0
    ∧ (s.read8 0xFF00).getLsbD 3 = line p.down p.start ∧ (s.read8 0xFF00).getLsbD 2 = line p.up p.select
    ∧ (s.read8 0xFF00).getLsbD 1 = line p.left p.bBtn ∧ (s.read8 0xFF00).getLsbD 0 = line p.right p.aBtn
    ∧ s.write8 0xFF00 v = { s with input := { p with sel := v.extractLsb' 4 2 } })
  ∧ (∀ (s : State) (b : Button),
    s.hostCall (.press b)
      = (if s.input.pressed b then s
        else { s with iflag := s.iflag ||| 0b10000#5, input := s.input.setPressed b true })
    ∧ s.hostCall (.release b) = { s with input := s.input.setPressed b false })
  ∧ ∀ (p : Input) (b c : Button) (v : Bool),
    (p.setPressed b v).pressed c = (if c = b then v else p.pressed c) ∧ (p.setPressed b v).sel = p.sel

/-- R451 to R453, R468, and `IE` and `IF` as memory (R31, R32): what each port reads and what a write of it changes. No peripheral
ever raises the serial request or changes the serial port.
Choices of the spec that it rests on: D5, D16, D17, D19. -/
def Obligations.TimerSerialAndMaskPorts : Prop :=
  (∀ (s : State) (v : Byte),
    s.read8 0xFF04 = s.timer.sysclk.extractLsb' 8 8
    ∧ s.write8 0xFF04 v = { s with timer := { s.timer with sysclk := 0 } }
    ∧ s.read8 0xFF05 = s.timer.tima ∧ s.write8 0xFF05 v = { s with timer := { s.timer with tima := v } }
    ∧ s.read8 0xFF06 = s.timer.tma ∧ s.write8 0xFF06 v = { s with timer := { s.timer with tma := v } }
    ∧ s.read8 0xFF07 = 0xF8 ||| s.timer.tac.setWidth 8
    ∧ (let period : Nat := if v.extractLsb' 0 2 = 0#2 then 1024 else if v.extractLsb' 0 2 = 1#2 then 16
        else if v.extractLsb' 0 2 = 2#2 then 64 else 256
      s.write8 0xFF07 v
        = { s with timer := { s.timer with
              tac := v.extractLsb' 0 3, tsub := if s.timer.tsub < period then s.timer.tsub else s.timer.tsub % period } })
    ∧ s.read8 0xFF01 = s.serial.sb ∧ s.write8 0xFF01 v = { s with serial := { s.serial with sb := v } }
    ∧ s.read8 0xFF02 = 0x7E ||| (if s.serial.sc7 then 0x80 else 0x00) ||| (if s.serial.sc0 then 0x01 else 0x00)
    ∧ s.write8 0xFF02 v = { s with serial := { s.serial with sc7 := v.getLsbD 7, sc0 := v.getLsbD 0 } }
    ∧ s.read8 0xFFFF = s.ie ∧ s.write8 0xFFFF v = { s with ie := v }
    ∧ s.read8 0xFF0F = 0xE0 ||| s.iflag.setWidth 8 ∧ s.write8 0xFF0F v = { s with iflag := v.extractLsb' 0 5 })
  ∧ ∀ (s : State) (n : Nat),
    ((s.timerAdvance n).iflag.getLsbD 3 = s.iflag.getLsbD 3) ∧ ((s.ppuAdvance n).iflag.getLsbD 3 = s.iflag.getLsbD 3)
    ∧ (s.apuAdvance n).iflag = s.iflag ∧ (s.timerAdvance n).serial = s.serial ∧ (s.ppuAdvance n).serial = s.serial
    ∧ (s.apuAdvance n).serial = s.serial

/-! ### Cartridge and clock (spec/61_cartridge.md) -/

/-- R503 to R509, R524, R526, R527. ROM: bank 0 in the lower half; in the upper half the selected bank, never bank 0 and always
inside the declared count; bytes beyond the image read 0xFF. RAM window: with nothing selected it reads 0xFF and ignores stores;
a selected bank reads and stores the masked bank's cell; a selected clock register reads its latched copy and advances the live
clock, and a store advances the clock, writes the live register through its mask, and takes a fresh anchor when it clears the
halt bit.
Choices of the spec that it rests on: D20, D21. -/
def Obligations.CartridgeRomBanking : Prop :=
  (∀ (s : State) (k : Nat) (a : Word), s.cart.romBanks = 2 ^ (k + 1) →
    let b := s.cart.romBank.toNat % 2 ^ (k + 1)
    let bank := if b = 0 then 1 else b
    let byte (off : Nat) : Byte := if off < s.cart.romSize then s.cart.rom.read off else 0xFF
    s.cart.effRomBank = bank ∧ 1 ≤ bank ∧ bank < 2 ^ (k + 1)
    ∧ (a.toNat < 0x4000 → (s.bootMapped = true → 0x0100 ≤ a.toNat) → s.read8 a = byte a.toNat)
    ∧ (0x4000 ≤ a.toNat → a.toNat < 0x8000 →
      s.read8 a = byte (match s.cart.kind with | .romOnly => a.toNat | .mbc3Rtc => bank * 0x4000 + (a.toNat - 0x4000))))
  ∧ ∀ (s : State) (a : Word) (v : Byte), 0xA000 ≤ a.toNat → a.toNat < 0xC000 →
    let c := s.cart
    let sel := c.ramSel.toNat
    ((c.kind = .romOnly ∨ c.ramEnable = false ∨ (sel ≤ 3 ∧ c.ramBanks = 0) ∨ (4 ≤ sel ∧ sel ≤ 7) ∨ 13 ≤ sel) →
      s.read8 a = 0xFF ∧ s.touch8 a = s ∧ s.write8 a v = s)
    ∧ (c.kind = .mbc3Rtc → c.ramEnable = true →
      (∀ k, sel ≤ 3 → c.ramBanks = 2 ^ k →
        let off := sel % 2 ^ k * 0x2000 + (a.toNat - 0xA000)
        s.read8 a = c.ram.read off ∧ s.touch8 a = s
        ∧ s.write8 a v = { s with cart := { c with ram := c.ram.write off v } })
      ∧ (8 ≤ sel → sel ≤ 12 →
        let u := s.rtcAdvance
        let r := u.cart.rtc
        let r' : Rtc :=
          if sel = 8 then { r with s := v.extractLsb' 0 6 }
          else if sel = 9 then { r with m := v.extractLsb' 0 6 }
          else if sel = 10 then { r with h := v.extractLsb' 0 5 }
          else if sel = 11 then { r with dl := v }
          else { r with carry := v.getLsbD 7, halt := v.getLsbD 6, day8 := v.getLsbD 0 }
        let w := { u with cart := { u.cart with rtc := r' } }
        s.read8 a
          = (if sel = 8 then c.lat.s.setWidth 8 else if sel = 9 then c.lat.m.setWidth 8
            else if sel = 10 then c.lat.h.setWidth 8 else if sel = 11 then c.lat.dl
            else (if c.lat.carry then 0x80 else 0) ||| (if c.lat.halt then 0x40 else 0) ||| (if c.lat.day8 then 0x01 else 0))
        ∧ s.touch8 a = u
        ∧ s.write8 a v
          = (if sel = 12 ∧ r.halt = true ∧ v.getLsbD 6 = false then
              { w with
                cart := { w.cart with rtcAnchor := u.nextNow }
                host := { w.host with now := u.nextNow, nowReads := w.host.nowReads + 1 } }
            else w)))

/-- R510 to R514: a store below 0x8000 reaches a latch by its window alone, whatever the overlay; a fixed mapping ignores it.
Choices of the spec that it rests on: D20, D21. -/
def Obligations.CartridgeLatches : Prop :=
  ∀ (s : State) (a : Word) (v : Byte), a.toNat < 0x8000 →
    (s.cart.kind = .romOnly → s.write8 a v = s)
    ∧ (s.cart.kind = .mbc3Rtc →
      (a.toNat < 0x2000 → s.write8 a v = { s with cart := { s.cart with ramEnable := decide (v.toNat % 16 = 0x0A) } })
      ∧ (0x2000 ≤ a.toNat → a.toNat < 0x4000 →
        s.write8 a v = { s with cart := { s.cart with romBank := v.extractLsb' 0 7 } })
      ∧ (0x4000 ≤ a.toNat → a.toNat < 0x6000 →
        s.write8 a v = { s with cart := { s.cart with ramSel := v.extractLsb' 0 4 } })
      ∧ (0x6000 ≤ a.toNat →
        s.write8 a v
          = (if s.cart.latchPrev = 0x00 ∧ v = 0x01 then
              { s.rtcAdvance with cart := { s.rtcAdvance.cart with lat := s.rtcAdvance.cart.rtc, latchPrev := v } }
            else { s with cart := { s.cart with latchPrev := v } })))

/-- R522, R523: the carry chain of `n` seconds, in closed form, for registers inside their ranges: the total count modulo 512 days,
with the carry set when it passes that and never cleared. One tick of registers outside their ranges, the choice D21 of the spec,
is in ClockAdvanceSplits. -/
def Obligations.ClockTicksAddSeconds : Prop :=
  ∀ (r : Rtc) (n : Nat), r.InRange →
    (r.ticks n).InRange ∧ (r.ticks n).total = (r.total + n) % (512 * 86400)
    ∧ (r.ticks n).carry = (r.carry || decide (r.total + n ≥ 512 * 86400)) ∧ (r.ticks n).halt = r.halt

/-- R520, R522, R524: what one advance does; advancing to one time and then to a later one equals advancing to the later one; the
anchor stays within a second of the time; a halted clock does not move. `RtcAdvance()` reads `NowUs`, never an earlier time than
before (R15; by how much later is free, log entry 4), and advances to it. One tick, for EVERY value of the registers: seconds and
minutes carry at 60 and hours at 24 alone, so a value above (60 to 63, 24 to 31) counts to the top of its width and wraps to 0
with no carry, the choice D21 of the spec; `n` ticks are `n` times one.
Choices of the spec that it rests on: D21, D35. -/
def Obligations.ClockAdvanceSplits : Prop :=
  (∀ (c : Cart) (m n : Nat), c.rtcAnchor ≤ m → m ≤ n →
    (c.advanceTo m).advanceTo n = c.advanceTo n
    ∧ (c.rtc.halt = true → c.advanceTo n = c)
    ∧ (c.rtc.halt = false →
      (c.advanceTo n).rtcAnchor ≤ n ∧ n < (c.advanceTo n).rtcAnchor + 1000000
      ∧ ∃ secs, (c.advanceTo n).rtcAnchor = c.rtcAnchor + secs * 1000000
        ∧ c.advanceTo n = { c with rtcAnchor := c.rtcAnchor + secs * 1000000, rtc := c.rtc.ticks secs }))
  ∧ ∀ s : State,
    s.host.now ≤ s.nextNow
    ∧ s.rtcAdvance
      = { s with
          cart := s.cart.advanceTo s.nextNow
          host := { s.host with now := s.nextNow, nowReads := s.host.nowReads + 1 } }
  ∧ ∀ (r : Rtc) (n : Nat),
    let day : Nat := (if r.day8 then 256 else 0) + r.dl.toNat + 1
    r.tick
      = (if r.s.toNat ≠ 59 then { r with s := BitVec.ofNat 6 (r.s.toNat + 1) }
        else if r.m.toNat ≠ 59 then { r with s := 0, m := BitVec.ofNat 6 (r.m.toNat + 1) }
        else if r.h.toNat ≠ 23 then { r with s := 0, m := 0, h := BitVec.ofNat 5 (r.h.toNat + 1) }
        else
          { s := 0, m := 0, h := 0, dl := BitVec.ofNat 8 day, day8 := decide (256 ≤ day ∧ day < 512), halt := r.halt,
            carry := r.carry || decide (day = 512) })
    ∧ r.ticks 0 = r ∧ r.ticks (n + 1) = r.tick.ticks n
    ∧ (r.s.toNat = 63 → r.tick.s = 0 ∧ r.tick.m = r.m)
    ∧ (r.s.toNat = 59 → r.m.toNat = 63 → r.tick.m = 0 ∧ r.tick.h = r.h)
    ∧ (r.s.toNat = 59 → r.m.toNat = 59 → r.h.toNat = 31 → r.tick.h = 0 ∧ r.tick.dl = r.dl ∧ r.tick.day8 = r.day8)

/-- R540 to R542: a save, and then a construction whose save data is what the `Save` port then holds, reproduce `cart_ram` and
the five live registers (as they stand at the save, so that time switched off is not added), for every layout that lists all
five. Choices of the model: the `Save` port is at least as long as what was written (log entry 8), and a layout is a list of
bytes (log entry 13).
Choices of the spec that it rests on: D22. -/
def Obligations.SaveRoundTrip : Prop :=
  ∀ (s : State) (a : ConstructArgs), s.cart.kind = .mbc3Rtc → s.cart.ram.Fits (s.cart.ramBanks * 0x2000) → s.host.save.wf →
    (∀ f : RtcField, .live f ∈ s.par.rtcSaveLayout) →
    let t := s.saveRequest
    let u := State.construct a
    let n := s.cart.ramBanks * 0x2000
    ((∀ i, i < n → t.host.save.read i = s.cart.ram.read i)
      ∧ n + s.par.rtcSaveLayout.length ≤ t.host.saveSize
      ∧ t.cart = { s.rtcAdvance.cart with ram := s.cart.ram })
    ∧ (∀ bytes : List Byte, a.save = some bytes → bytes.length = t.host.saveSize →
      (∀ i, i < bytes.length → bytes.getD i 0 = t.host.save.read i) →
      a.par.rtcSaveLayout = s.par.rtcSaveLayout → u.cart.kind = .mbc3Rtc → u.cart.ramBanks = s.cart.ramBanks →
      u.cart.ram = s.cart.ram ∧ u.cart.rtc = t.cart.rtc ∧ u.cart.lat = t.cart.rtc)

/-! ### Pixel processor (spec/62_ppu.md) -/

/-- R555 to R560, R570, R572: the ports of the pixel processor; the STAT line requests on its rising edge only; a write of
`LCDC` that changes bit 7 resets the scan; a display that is off does not advance. That switching on keeps `obj_drawn` and
`bg_idx` is the model's choice (log entry 17).
Choices of the spec that it rests on: D23, D25, D27, D28. -/
def Obligations.StatLineAndDisplaySwitch : Prop :=
  ∀ (s : State) (v : Byte),
    let p := s.ppu
    let level : Bool :=
      (p.statEn.getLsbD 3 && decide (p.ly = p.lyc)) || (p.statEn.getLsbD 2 && decide (p.mode = .oamScan))
        || (p.statEn.getLsbD 1 && decide (p.mode = .vBlank)) || (p.statEn.getLsbD 0 && decide (p.mode = .hBlank))
    (p.lcdc.getLsbD 7 = false →
      s.evalStat = { s with ppu := { p with statLevel := false } } ∧ ∀ n, s.ppuAdvance n = s)
    ∧ (p.lcdc.getLsbD 7 = true →
      s.evalStat
        = { s with
            iflag := if level ∧ ¬ p.statLevel then s.iflag ||| 0b00010#5 else s.iflag
            ppu := { p with statLevel := level } })
    ∧ s.read8 0xFF40 = p.lcdc
    ∧ (p.lcdc.getLsbD 7 = v.getLsbD 7 → s.write8 0xFF40 v = { s with ppu := { p with lcdc := v } })
    ∧ (p.lcdc.getLsbD 7 = true → v.getLsbD 7 = false →
      s.write8 0xFF40 v
        = { s with ppu := { p with
              lcdc := v, ly := 0, modeClock := 0, mode := .hBlank, winLine := 0, statLevel := false } })
    ∧ (p.lcdc.getLsbD 7 = false → v.getLsbD 7 = true →
      s.write8 0xFF40 v
        = { s with ppu := { p with lcdc := v, ly := 0, modeClock := 0, mode := .oamScan, winLine := 0 } }.evalStat)
    ∧ s.read8 0xFF41
        = 0x80 ||| (p.statEn.setWidth 8 <<< 3) ||| (if p.ly = p.lyc then 0x04 else 0x00)
          ||| (match p.mode with | .hBlank => 0x00 | .vBlank => 0x01 | .oamScan => 0x02 | .transfer => 0x03)
    ∧ s.write8 0xFF41 v = { s with ppu := { p with statEn := v.extractLsb' 3 4 } }.evalStat
    ∧ s.read8 0xFF42 = p.scy ∧ s.write8 0xFF42 v = { s with ppu := { p with scy := v } }
    ∧ s.read8 0xFF43 = p.scx ∧ s.write8 0xFF43 v = { s with ppu := { p with scx := v } }
    ∧ s.read8 0xFF44 = p.ly ∧ s.write8 0xFF44 v = s
    ∧ s.read8 0xFF45 = p.lyc ∧ s.write8 0xFF45 v = { s with ppu := { p with lyc := v } }.evalStat
    ∧ s.read8 0xFF47 = p.bgp ∧ s.write8 0xFF47 v = { s with ppu := { p with bgp := v } }
    ∧ s.read8 0xFF48 = p.obp0 ∧ s.write8 0xFF48 v = { s with ppu := { p with obp0 := v } }
    ∧ s.read8 0xFF49 = p.obp1 ∧ s.write8 0xFF49 v = { s with ppu := { p with obp1 := v } }
    ∧ s.read8 0xFF4A = p.wy ∧ s.write8 0xFF4A v = { s with ppu := { p with wy := v } }
    ∧ s.read8 0xFF4B = p.wx ∧ s.write8 0xFF4B v = { s with ppu := { p with wx := v } }

/-- R562 to R568: each transition alone, for a batch that reaches the end of the current mode and not that of the next: the end of
the scan takes the sprites from object memory, that of the transfer renders the line, that of horizontal blank clears the scratch
and moves to the next line, raising the vertical-blank request and the frame-ready signal exactly when it is line 144, and that
of a blank line moves on or, after line 153, back to line 0; each evaluates the STAT line, and what is over stays in the clock. A
batch that reaches no end only counts. Two batches are one batch of their sum, and one frame's worth of cycles from the start of
line 0 leads back to it. The frame-ready signal is the field `frameReady` of the model's host record (log entry 7); that the
request is bit 0 is the spec's choice D6, that the window line counter is reset after line 153 (R567) its choice D25.
Choices of the spec that it rests on: D6, D24, D25, D27. -/
def Obligations.FrameIsSeventyThousandCycles : Prop :=
  (∀ (s : State) (n : Nat), s.ppu.lcdc.getLsbD 7 = true →
    let p := s.ppu
    let k := p.modeClock + n
    (k < (match p.mode with | .oamScan => 80 | .transfer => 172 | .hBlank => 204 | .vBlank => 456) →
      s.ppuAdvance n = { s with ppu := { p with modeClock := k } })
    ∧ (p.mode = .oamScan → 80 ≤ k → k < 80 + 172 →
      s.ppuAdvance n
        = { s with ppu := { p with
              modeClock := k - 80, mode := .transfer
              sprites := (List.range 40).map (fun i =>
                ⟨s.oam.read (4 * i), s.oam.read (4 * i + 1), s.oam.read (4 * i + 2), s.oam.read (4 * i + 3)⟩) } }.evalStat)
    ∧ (p.mode = .transfer → 172 ≤ k → k < 172 + 204 →
      s.ppuAdvance n
        = { s with ppu := { p.renderLine s.vram p.ly.toNat with modeClock := k - 172, mode := .hBlank } }.evalStat)
    ∧ (p.mode = .hBlank → 204 ≤ k → k < 204 + 80 →
      let q : Ppu := { p with
        modeClock := k - 204, ly := p.ly + 1, bgIdx := List.replicate 160 0, objDrawn := List.replicate 160 false }
      s.ppuAdvance n
        = (if p.ly.toNat = 143 then
            { s with
              iflag := s.iflag ||| 0b00001#5
              ppu := { q with mode := .vBlank }
              host := { s.host with frameReady := true } }.evalStat
          else { s with ppu := { q with mode := .oamScan } }.evalStat))
    ∧ (p.mode = .vBlank → 456 ≤ k → k < 456 + 80 →
      s.ppuAdvance n
        = (if p.ly.toNat = 153 then
            { s with ppu := { p with modeClock := k - 456, ly := 0, winLine := 0, mode := .oamScan } }.evalStat
          else { s with ppu := { p with modeClock := k - 456, ly := p.ly + 1 } }.evalStat)))
  ∧ (∀ (s : State) (m n : Nat), s.ppu.modeClock < s.ppu.mode.budget → (s.ppuAdvance m).ppuAdvance n = s.ppuAdvance (m + n))
  ∧ ∀ s : State, s.ppu.lcdc.getLsbD 7 = true → s.ppu.mode = .oamScan → s.ppu.modeClock = 0 → s.ppu.ly = 0 →
    let t := s.ppuAdvance 70224
    t.ppu.mode = .oamScan ∧ t.ppu.modeClock = 0 ∧ t.ppu.ly = 0 ∧ t.ppu.winLine = 0 ∧ t.ppu.lcdc = s.ppu.lcdc
    ∧ t.host.frameReady = true ∧ t.iflag.getLsbD 0 = true ∧ t.vram = s.vram ∧ t.oam = s.oam ∧ t.regs = s.regs

/-- R580 to R586, R590 to R596. The background or window pixel: which layer, its map, scroll or window line, the tile's unsigned
or signed base, the two bit planes; index and shade 0 with the layers off. A rendered line: the indices of its background, the
window line counter, one row of the framebuffer and nothing else. The sprites selected are the first ten on the line, in index
order. The colour index of a sprite's column, with its flips and its height. A pixel of the line is that of the sprite with the
smallest `x`, then the smallest index, among the selected ones that cover the column with an opaque pixel and have no priority
bit or stand over background index 0, and it then owns the column; without one, with sprites off or in a column that is owned
already, it is the background's. With all-zero tile data a line without sprites is the shade of index 0.
Choices of the spec that it rests on: D23, D25, D26. -/
def Obligations.RenderingProperties : Prop :=
  (∀ (p : Ppu) (vram : Memory) (y x : Nat),
    let window : Bool := p.lcdc.getLsbD 5 && decide (p.wy.toNat ≤ y) && decide (p.wx.toNat ≤ x + 7)
    let px := if window then x + 7 - p.wx.toNat else (x + p.scx.toNat) % 256
    let py := if window then p.winLine else (y + p.scy.toNat) % 256
    let map := if p.lcdc.getLsbD (if window then 6 else 3) then 0x1C00 else 0x1800
    let t := (vram.read (map + 32 * (py / 8) + px / 8)).toNat
    let base := if p.lcdc.getLsbD 4 then t * 16 else if t < 128 then 0x1000 + t * 16 else 0x1000 - (256 - t) * 16
    let plane (k : Nat) : Nat := ((vram.read (base + 2 * (py % 8) + k)).getLsbD (7 - px % 8)).toNat
    let idx := p.bgIndexAt vram y x
    idx.toNat = (if p.lcdc.getLsbD 0 then 2 * plane 1 + plane 0 else 0)
    ∧ (p.bgShade idx).toNat = (if p.lcdc.getLsbD 0 then p.bgp.toNat / 4 ^ idx.toNat % 4 else 0))
  ∧ (∀ (p : Ppu) (vram : Memory) (y : Nat),
    let q := p.renderLine vram y
    q = { p with bgIdx := q.bgIdx, objDrawn := q.objDrawn, fb := q.fb, winLine := q.winLine }
    ∧ q.bgIdx = (List.range 160).map (p.bgIndexAt vram y)
    ∧ q.winLine
      = (if p.lcdc.getLsbD 0 = true ∧ p.lcdc.getLsbD 5 = true ∧ p.wy.toNat ≤ y ∧ p.wx.toNat ≤ 166 then p.winLine + 1
        else p.winLine)
    ∧ q.fb.length = p.fb.length ∧ (∀ k, k ≠ y → q.fb[k]? = p.fb[k]?)
    ∧ (p.lcdc.getLsbD 0 = true → p.lcdc.getLsbD 1 = false → (∀ k, k < 0x1800 → vram.read k = 0) → y < p.fb.length →
      q.fb.getD y [] = List.replicate 160 (p.bgp.extractLsb' 0 2) ∧ q.bgIdx = List.replicate 160 0))
  ∧ (∀ (p : Ppu) (y : Nat),
    (p.selectSprites y).length ≤ 10
    ∧ (∀ e ∈ p.selectSprites y, p.sprites[e.2]? = some e.1 ∧ e.1.y.toNat ≤ y + 16
        ∧ y + 16 < e.1.y.toNat + (if p.lcdc.getLsbD 2 then 16 else 8))
    ∧ (p.selectSprites y).Pairwise (fun e e' => e.2 < e'.2)
    ∧ ∀ (i : Nat) (sp : Sprite), p.sprites[i]? = some sp → sp.y.toNat ≤ y + 16 →
        y + 16 < sp.y.toNat + (if p.lcdc.getLsbD 2 then 16 else 8) →
        (sp, i) ∈ p.selectSprites y ∨ ((p.selectSprites y).length = 10 ∧ ∀ e ∈ p.selectSprites y, e.2 < i))
  ∧ (∀ (sp : Sprite) (vram : Memory) (h y c : Nat), h = 8 ∨ h = 16 → c < 8 →
    let r := y + 16 - sp.y.toNat
    let row := if sp.attr.getLsbD 6 then h - 1 - r else r
    let tile := if h = 16 then sp.tile.toNat / 2 * 2 else sp.tile.toNat
    let bit := if sp.attr.getLsbD 5 then c else 7 - c
    let plane (k : Nat) : Nat := ((vram.read (tile * 16 + 2 * row + k)).getLsbD bit).toNat
    (sp.index vram h y c).toNat = 2 * plane 1 + plane 0)
  ∧ ∀ (p : Ppu) (vram : Memory) (y x : Nat), y < p.fb.length → x < 160 → p.objDrawn.length = 160 →
    let q := p.renderLine vram y
    let bg := p.bgIndexAt vram y x
    let pixel := (q.fb.getD y []).getD x 0
    let idx (e : Sprite × Nat) : BitVec 2 := e.1.index vram (if p.lcdc.getLsbD 2 then 16 else 8) y (x + 8 - e.1.x.toNat)
    let shows (e : Sprite × Nat) : Prop :=
      p.lcdc.getLsbD 1 = true ∧ p.objDrawn.getD x false = false ∧ e ∈ p.selectSprites y
        ∧ e.1.x.toNat ≤ x + 8 ∧ x < e.1.x.toNat ∧ idx e ≠ 0 ∧ (e.1.attr.getLsbD 7 = false ∨ bg = 0)
    ((∀ e, ¬ shows e) → pixel = p.bgShade bg ∧ q.objDrawn.getD x false = p.objDrawn.getD x false)
    ∧ ∀ e, shows e →
      (∀ e', shows e' → e' ≠ e → e.1.x.toNat < e'.1.x.toNat ∨ (e.1.x = e'.1.x ∧ e.2 < e'.2)) →
      pixel.toNat = (if e.1.attr.getLsbD 4 then p.obp1 else p.obp0).toNat / 4 ^ (idx e).toNat % 4
        ∧ q.objDrawn.getD x false = true

/-! ### Audio processor (spec/63_apu.md) -/

/-- R680, R681, R652, R650: the master disable clears every channel field, `NR50` and `NR51` and leaves the sequencer, the output
counter and the wave table; the re-enable sets the enable alone; while it is off, writes to the other registers are ignored, the
channels do not advance, and the mixer gives (0, 0). `NR52` reads the enable and the four `active` bits, a channel being active
when it is enabled and its DAC is on.
Choices of the spec that it rests on: D29, D31. -/
def Obligations.AudioMasterEnable : Prop :=
  ∀ (s : State) (v : Byte),
    (s.apu.on = true → v.getLsbD 7 = false →
      s.write8 0xFF26 v
        = { s with apu :=
            { on := false, seqClock := s.apu.seqClock, seqPhase := s.apu.seqPhase, nr50 := 0, nr51 := 0,
              sampleClock := s.apu.sampleClock, wave := s.apu.wave, ch1 := .zero, sweep := .zero, ch2 := .zero,
              ch3 := .zero, ch4 := .zero } })
    ∧ (s.apu.on = false → v.getLsbD 7 = true → s.write8 0xFF26 v = { s with apu := { s.apu with on := true } })
    ∧ (s.apu.on = v.getLsbD 7 → s.write8 0xFF26 v = s)
    ∧ s.read8 0xFF26
        = (if s.apu.on then 0x80 else 0x00) ||| 0x70
          ||| (if s.apu.ch4.ch.enabled ∧ s.apu.ch4.ch.dac then 0x08 else 0x00)
          ||| (if s.apu.ch3.ch.enabled ∧ s.apu.ch3.ch.dac then 0x04 else 0x00)
          ||| (if s.apu.ch2.ch.enabled ∧ s.apu.ch2.ch.dac then 0x02 else 0x00)
          ||| (if s.apu.ch1.ch.enabled ∧ s.apu.ch1.ch.dac then 0x01 else 0x00)
    ∧ (∀ a : Word, 0xFF10 ≤ a.toNat → a.toNat ≤ 0xFF25 → s.apu.on = false → s.write8 a v = s)
    ∧ (s.apu.on = false →
      (∀ m, s.apu.mix m = (0, 0))
      ∧ ∀ n, let t := s.apuAdvance n
        t.apu.ch1 = s.apu.ch1 ∧ t.apu.sweep = s.apu.sweep ∧ t.apu.ch2 = s.apu.ch2 ∧ t.apu.ch3 = s.apu.ch3
        ∧ t.apu.ch4 = s.apu.ch4 ∧ t.apu.on = false)

/-- R628 to R649, R651, R670: what each audio register reads, the stored bits with the read mask of its rule; what a write of
each does with the master enable set, first without a trigger, then the trigger of channels 2, 3 and 4 and of channel 1 with its
sweep; and the wave table, read and written whatever the enable is.
Choices of the spec that it rests on: D29, D31. -/
def Obligations.ChannelTriggers : Prop :=
  (∀ s : State,
    let a := s.apu
    let bit (b : Bool) (m : Byte) : Byte := if b then m else 0
    let envelope (e : Env) : Byte := (e.init.setWidth 8 <<< 4) ||| bit e.dir 0x08 ||| e.period.setWidth 8
    s.read8 0xFF10 = 0x80 ||| (a.sweep.pace.setWidth 8 <<< 4) ||| bit a.sweep.dir 0x08 ||| a.sweep.step.setWidth 8
    ∧ s.read8 0xFF11 = 0x3F ||| (a.ch1.duty.setWidth 8 <<< 6) ∧ s.read8 0xFF16 = 0x3F ||| (a.ch2.duty.setWidth 8 <<< 6)
    ∧ s.read8 0xFF12 = envelope a.ch1.env ∧ s.read8 0xFF17 = envelope a.ch2.env ∧ s.read8 0xFF21 = envelope a.ch4.env
    ∧ s.read8 0xFF13 = 0xFF ∧ s.read8 0xFF18 = 0xFF ∧ s.read8 0xFF1B = 0xFF ∧ s.read8 0xFF1D = 0xFF ∧ s.read8 0xFF20 = 0xFF
    ∧ s.read8 0xFF14 = 0xBF ||| bit a.ch1.ch.lenEn 0x40 ∧ s.read8 0xFF19 = 0xBF ||| bit a.ch2.ch.lenEn 0x40
    ∧ s.read8 0xFF1E = 0xBF ||| bit a.ch3.ch.lenEn 0x40 ∧ s.read8 0xFF23 = 0xBF ||| bit a.ch4.ch.lenEn 0x40
    ∧ s.read8 0xFF1A = 0x7F ||| bit a.ch3.ch.dac 0x80 ∧ s.read8 0xFF1C = 0x9F ||| (a.ch3.level.setWidth 8 <<< 5)
    ∧ s.read8 0xFF22 = (a.ch4.clkShift.setWidth 8 <<< 4) ||| bit a.ch4.width 0x08 ||| a.ch4.divCode.setWidth 8
    ∧ s.read8 0xFF24 = a.nr50 ∧ s.read8 0xFF25 = a.nr51)
  ∧ (∀ (s : State) (v : Byte), s.apu.on = true →
    let a := s.apu
    let put (b : Apu) : State := { s with apu := b }
    let envelope (e : Env) : Env := { e with init := v.extractLsb' 4 4, dir := v.getLsbD 3, period := v.extractLsb' 0 3 }
    let dac (c : Chan) : Chan := { c with dac := decide (8 ≤ v.toNat) }
    let len (c : Chan) (n : Nat) : Chan := { c with len := n }
    let low (f : BitVec 11) : BitVec 11 := BitVec.ofNat 11 (f.toNat / 256 * 256 + v.toNat)
    let high (f : BitVec 11) : BitVec 11 := BitVec.ofNat 11 ((v.toNat % 8) * 256 + f.toNat % 256)
    let lenEn (c : Chan) : Chan := { c with lenEn := v.getLsbD 6 }
    s.write8 0xFF10 v
        = put { a with sweep := { a.sweep with pace := v.extractLsb' 4 3, dir := v.getLsbD 3, step := v.extractLsb' 0 3 } }
    ∧ s.write8 0xFF11 v = put { a with ch1 := { a.ch1 with duty := v.extractLsb' 6 2, ch := len a.ch1.ch (64 - v.toNat % 64) } }
    ∧ s.write8 0xFF16 v = put { a with ch2 := { a.ch2 with duty := v.extractLsb' 6 2, ch := len a.ch2.ch (64 - v.toNat % 64) } }
    ∧ s.write8 0xFF12 v = put { a with ch1 := { a.ch1 with env := envelope a.ch1.env, ch := dac a.ch1.ch } }
    ∧ s.write8 0xFF17 v = put { a with ch2 := { a.ch2 with env := envelope a.ch2.env, ch := dac a.ch2.ch } }
    ∧ s.write8 0xFF21 v = put { a with ch4 := { a.ch4 with env := envelope a.ch4.env, ch := dac a.ch4.ch } }
    ∧ s.write8 0xFF13 v = put { a with ch1 := { a.ch1 with freq := low a.ch1.freq } }
    ∧ s.write8 0xFF18 v = put { a with ch2 := { a.ch2 with freq := low a.ch2.freq } }
    ∧ s.write8 0xFF1D v = put { a with ch3 := { a.ch3 with freq := low a.ch3.freq } }
    ∧ s.write8 0xFF1A v = put { a with ch3 := { a.ch3 with ch := { a.ch3.ch with dac := v.getLsbD 7 } } }
    ∧ s.write8 0xFF1B v = put { a with ch3 := { a.ch3 with ch := len a.ch3.ch (256 - v.toNat) } }
    ∧ s.write8 0xFF1C v = put { a with ch3 := { a.ch3 with level := v.extractLsb' 5 2 } }
    ∧ s.write8 0xFF20 v = put { a with ch4 := { a.ch4 with ch := len a.ch4.ch (64 - v.toNat % 64) } }
    ∧ s.write8 0xFF22 v
        = put { a with ch4 := { a.ch4 with clkShift := v.extractLsb' 4 4, width := v.getLsbD 3, divCode := v.extractLsb' 0 3 } }
    ∧ s.write8 0xFF24 v = put { a with nr50 := v } ∧ s.write8 0xFF25 v = put { a with nr51 := v }
    ∧ (v.getLsbD 7 = false →
      s.write8 0xFF14 v = put { a with ch1 := { a.ch1 with freq := high a.ch1.freq, ch := lenEn a.ch1.ch } }
      ∧ s.write8 0xFF19 v = put { a with ch2 := { a.ch2 with freq := high a.ch2.freq, ch := lenEn a.ch2.ch } }
      ∧ s.write8 0xFF1E v = put { a with ch3 := { a.ch3 with freq := high a.ch3.freq, ch := lenEn a.ch3.ch } }
      ∧ s.write8 0xFF23 v = put { a with ch4 := { a.ch4 with ch := lenEn a.ch4.ch } }))
  ∧ (∀ (s : State) (v : Byte), s.apu.on = true → v.getLsbD 7 = true →
    let freq (f : BitVec 11) : BitVec 11 := BitVec.ofNat 11 ((v.toNat % 8) * 256 + f.toNat % 256)
    let chan (c : Chan) (top period : Nat) : Chan :=
      { enabled := true, dac := c.dac, len := if c.len = 0 then top else c.len, lenEn := v.getLsbD 6, ftimer := period }
    let env (e : Env) : Env := { e with timer := e.period, vol := e.init, active := true }
    let a := s.apu
    let f1 := freq a.ch1.freq
    let exceeds : Bool := decide (a.sweep.step ≠ 0 ∧ a.sweep.dir = false ∧ f1.toNat + f1.toNat / 2 ^ a.sweep.step.toNat > 2047)
    s.write8 0xFF14 v
        = { s with apu := { a with
              sweep := { a.sweep with
                shadow := f1, timer := if a.sweep.pace = 0 then 8 else a.sweep.pace.toNat
                enable := decide (a.sweep.pace ≠ 0 ∨ a.sweep.step ≠ 0) }
              ch1 := { a.ch1 with
                freq := f1, env := env a.ch1.env
                ch := { chan a.ch1.ch 64 ((2048 - f1.toNat) * 4) with enabled := !exceeds } } } }
    ∧ s.write8 0xFF19 v
        = { s with apu := { a with ch2 := { a.ch2 with
              freq := freq a.ch2.freq, env := env a.ch2.env
              ch := chan a.ch2.ch 64 ((2048 - (freq a.ch2.freq).toNat) * 4) } } }
    ∧ s.write8 0xFF1E v
        = { s with apu := { a with ch3 := { a.ch3 with
              freq := freq a.ch3.freq, pos := 0, ch := chan a.ch3.ch 256 ((2048 - (freq a.ch3.freq).toNat) * 2) } } }
    ∧ s.write8 0xFF23 v
        = { s with apu := { a with ch4 := { a.ch4 with
              env := env a.ch4.env, lfsr := 0x7FFF
              ch := chan a.ch4.ch 64
                ((if a.ch4.divCode = 0 then 8 else 16 * a.ch4.divCode.toNat) * 2 ^ a.ch4.clkShift.toNat) } } })
  ∧ ∀ (s : State) (a b : Word) (v : Byte), 0xFF30 ≤ a.toNat → a.toNat < 0xFF40 → 0xFF30 ≤ b.toNat → b.toNat < 0xFF40 →
    s.read8 a = s.apu.wave.read (a.toNat - 0xFF30)
    ∧ s.write8 a v = { s with apu := { s.apu with wave := (s.write8 a v).apu.wave } }
    ∧ (s.apu.wave.wf → (s.write8 a v).read8 b = if b = a then v else s.read8 b)

/-- R660 to R665, R675 to R678, R685, R690: the length, envelope and sweep ticks; the channels' own cycles and outputs; what the
sequencer fires in a phase, and that one cycle is the sequencer, then the channels, then the output counter with its sample. The
mixer: on each side the sum of the outputs of the channels that are enabled with their DAC on and routed there, times the side's
volume plus one, at most the clamp; (0, 0) while the master enable is off. The sequencer counts every cycle whatever the
master enable is; samples come at the output counter's pace and no sample exceeds the clamp, which the default 480 never
lowers.
Choices of the spec that it rests on: D29, D30, D31, D32. -/
def Obligations.SequencerAndSamples : Prop :=
  (∀ c : Chan,
    c.lengthTick
      = (if c.lenEn = true ∧ 0 < c.len then { c with len := c.len - 1, enabled := c.enabled && decide (c.len ≠ 1) } else c))
  ∧ (∀ e : Env,
    let up := e.dir = true ∧ e.vol.toNat < 15
    let down := e.dir = false ∧ 0 < e.vol.toNat
    e.tick
      = (if e.period = 0 then e
        else if 1 < e.timer.toNat then { e with timer := e.timer - 1 }
        else if e.active = false then { e with timer := e.period }
        else { e with
          timer := e.period
          vol := if up then e.vol + 1 else if down then e.vol - 1 else e.vol
          active := decide (up ∨ down) }))
  ∧ (∀ (w : Sweep) (p : Pulse),
    let moved (f : Nat) : Nat := if w.dir then f - f / 2 ^ w.step.toNat else f + f / 2 ^ w.step.toNat
    let w' : Sweep := { w with timer := if w.pace = 0 then 8 else w.pace.toNat }
    let off (q : Pulse) : Pulse := { q with ch := { q.ch with enabled := false } }
    let new := moved w.shadow.toNat
    let q : Pulse := { p with freq := BitVec.ofNat 11 new }
    sweepTick w p
      = (if 1 < w.timer then ({ w with timer := w.timer - 1 }, p)
        else if w.enable = false ∨ w.pace = 0 then (w', p)
        else if 2047 < new then (w', off p)
        else if w.step = 0 then (w', p)
        else ({ w' with shadow := BitVec.ofNat 11 new }, if 2047 < moved new then off q else q)))
  ∧ (∀ (p : Pulse) (w : WaveCh) (n : Noise) (wave : Memory),
    let count (c : Chan) (period : Nat) : Chan := { c with ftimer := if c.ftimer ≤ 1 then period else c.ftimer - 1 }
    let x : Bool := n.lfsr.getLsbD 0 != n.lfsr.getLsbD 1
    let shifted (k : Nat) : Bool := if k = 14 ∨ (k = 6 ∧ n.width) then x else n.lfsr.getLsbD (k + 1)
    let row : List Nat :=
      if p.duty = 0 then [0, 0, 0, 0, 0, 0, 0, 1] else if p.duty = 1 then [1, 0, 0, 0, 0, 0, 0, 1]
      else if p.duty = 2 then [1, 0, 0, 0, 0, 1, 1, 1] else [0, 1, 1, 1, 1, 1, 1, 0]
    let byte := (wave.read (w.pos.toNat / 2)).toNat
    p.cycle
      = { p with
          ch := count p.ch ((2048 - p.freq.toNat) * 4), dutyPos := if p.ch.ftimer ≤ 1 then p.dutyPos + 1 else p.dutyPos }
    ∧ w.cycle = { w with ch := count w.ch ((2048 - w.freq.toNat) * 2), pos := if w.ch.ftimer ≤ 1 then w.pos + 1 else w.pos }
    ∧ n.cycle
      = { n with
          ch := count n.ch ((if n.divCode = 0 then 8 else 16 * n.divCode.toNat) * 2 ^ n.clkShift.toNat)
          lfsr := n.cycle.lfsr }
    ∧ (1 < n.ch.ftimer → n.cycle.lfsr = n.lfsr)
    ∧ (n.ch.ftimer ≤ 1 → ∀ k, k < 15 → n.cycle.lfsr.getLsbD k = shifted k)
    ∧ p.output = row.getD p.dutyPos.toNat 0 * p.env.vol.toNat
    ∧ w.output wave
      = (if w.pos.toNat % 2 = 0 then byte / 16 else byte % 16)
        / (if w.level = 0 then 16 else if w.level = 1 then 1 else if w.level = 2 then 2 else 4)
    ∧ n.output = if n.lfsr.getLsbD 0 then 0 else n.env.vol.toNat)
  ∧ (∀ (a : Apu) (phases : List (BitVec 3)) (p : BitVec 3),
    let len (c : Chan) : Chan := if p ∈ phases then c.lengthTick else c
    let env (e : Env) : Env := if p = 7 then e.tick else e
    let one : Pulse := { a.ch1 with ch := len a.ch1.ch }
    let swept := if p = 2 ∨ p = 6 then sweepTick a.sweep one else (a.sweep, one)
    let b : Apu := if a.seqClock + 1 = 8192 then
        { a.fireSequencer phases a.seqPhase with seqClock := 0, seqPhase := a.seqPhase + 1 }
      else { a with seqClock := a.seqClock + 1 }
    a.fireSequencer phases p
      = (if a.on then
          { a with
            sweep := swept.1
            ch1 := { swept.2 with env := env swept.2.env }
            ch2 := { a.ch2 with ch := len a.ch2.ch, env := env a.ch2.env }
            ch3 := { a.ch3 with ch := len a.ch3.ch }
            ch4 := { a.ch4 with ch := len a.ch4.ch, env := env a.ch4.env } }
        else a)
    ∧ a.cycle phases
      = if b.on then { b with ch1 := b.ch1.cycle, ch2 := b.ch2.cycle, ch3 := b.ch3.cycle, ch4 := b.ch4.cycle } else b)
  ∧ (∀ (s : State) (n : Nat), s.apu.seqClock < 8192 →
    (s.apuAdvance n).apu.seqClock = (s.apu.seqClock + n) % 8192
    ∧ (s.apuAdvance n).apu.seqPhase = s.apu.seqPhase + BitVec.ofNat 3 ((s.apu.seqClock + n) / 8192)
    ∧ (s.apuAdvance n).regs = s.regs ∧ (s.apuAdvance n).ppu = s.ppu ∧ (s.apuAdvance n).timer = s.timer)
  ∧ (∀ (s : State) (n : Nat), 1 ≤ s.apu.sampleClock → s.apu.sampleClock ≤ s.par.samplePeriodPred + 1 →
    (s.apuAdvance n).host.samples.length
      = s.host.samples.length + (s.par.samplePeriodPred + 1 - s.apu.sampleClock + n) / (s.par.samplePeriodPred + 1))
  ∧ (∀ (s : State) (m n : Nat),
    let a := s.apu.cycle s.par.lengthPhases
    let due := s.apu.sampleClock ≤ 1
    s.apuAdvance 1
      = { s with
          apu := { a with sampleClock := if due then s.par.samplePeriodPred + 1 else s.apu.sampleClock - 1 }
          host := { s.host with
            samples := if due then s.host.samples ++ [a.mix s.par.audioMax] else s.host.samples } }
    ∧ (s.apuAdvance m).apuAdvance n = s.apuAdvance (m + n))
  ∧ ∀ (a : Apu) (m : Nat),
    let part (c : Chan) (routed : Bool) (out : Nat) : Nat := if c.enabled = true ∧ c.dac = true ∧ routed = true then out else 0
    let sum (k : Nat) : Nat :=
      part a.ch1.ch (a.nr51.getLsbD k) a.ch1.output + part a.ch2.ch (a.nr51.getLsbD (k + 1)) a.ch2.output
        + part a.ch3.ch (a.nr51.getLsbD (k + 2)) (a.ch3.output a.wave) + part a.ch4.ch (a.nr51.getLsbD (k + 3)) a.ch4.output
    a.mix m
      = (if a.on then (min (sum 4 * (a.nr50.toNat / 16 % 8 + 1)) m, min (sum 0 * (a.nr50.toNat % 8 + 1)) m) else (0, 0))
    ∧ (a.mix m).1 ≤ m ∧ (a.mix m).2 ≤ m ∧ (480 ≤ m → a.mix m = a.mix 480)

/-! ### Reset (spec/10_state.md R70 to R76, spec/70_reset_and_hazards.md R700) -/

/-- The tables of R71 to R76 for both profiles, every port and parameter free, and the loading of save data that is present
(R540). The spec marks most of these values as its own choice (D9); `AUDIO_MAX`, `LENGTH_PHASES` and `RTC_SAVE_LAYOUT` are
arguments here.
Choices of the spec that it rests on: D22. -/
def Obligations.ConstructionTables : Prop :=
  ∀ a : ConstructArgs,
    let s := State.construct a
    let size := s.cart.ramBanks * 0x2000
    let whole := size + a.par.rtcSaveLayout.length
    (s.ime = false ∧ s.eiPending = false ∧ s.halted = false ∧ s.haltBug = false ∧ s.dmaStall = 0 ∧ s.fault = none
      ∧ s.ie = 0x00)
    ∧ (s.vram = [] ∧ s.wram = [] ∧ s.oam = [] ∧ s.hram = [] ∧ s.dmaReg = 0xFF)
    ∧ (s.timer.tsub = 0 ∧ s.timer.tima = 0 ∧ s.timer.tma = 0 ∧ s.timer.tac = 0 ∧ s.timer.overflowPending = false)
    ∧ (s.input.sel = 0 ∧ (∀ b, s.input.pressed b = false) ∧ s.serial.sb = 0x00 ∧ s.read8 0xFF02 = 0x7E)
    ∧ (∃ (lcdc : Byte) (mode : PpuMode), s.ppu
        = { lcdc := lcdc, statEn := 0, scy := 0, scx := 0, ly := 0, lyc := 0, bgp := 0xFC, obp0 := 0xFF, obp1 := 0xFF, wy := 0,
            wx := 0, mode := mode, modeClock := 0, winLine := 0, sprites := List.replicate 40 ⟨0, 0, 0, 0⟩,
            bgIdx := List.replicate 160 0, objDrawn := List.replicate 160 false,
            fb := List.replicate 144 (List.replicate 160 0), statLevel := false })
    ∧ (∃ (on : Bool) (nr50 nr51 : Byte), s.apu
        = { on := on, seqClock := 0, seqPhase := 0, nr50 := nr50, nr51 := nr51, sampleClock := a.par.samplePeriodPred + 1,
            wave := [], ch1 := .zero, sweep := .zero, ch2 := .zero, ch3 := .zero, ch4 := .zero })
    ∧ (Chan.zero = ⟨false, false, 0, false, 0⟩ ∧ Env.zero = ⟨0, false, 0, 0, false, 0⟩
      ∧ Pulse.zero = ⟨.zero, .zero, 0, 0, 0⟩ ∧ Sweep.zero = ⟨0, false, 0, 0, 0, false⟩ ∧ WaveCh.zero = ⟨.zero, 0, 0, 0⟩
      ∧ Noise.zero = ⟨.zero, .zero, 0, 0, 0, false⟩ ∧ Rtc.zero = ⟨0, 0, 0, 0, false, false, false⟩)
    ∧ (s.cart.romBank = 1 ∧ s.cart.ramSel = 0 ∧ s.cart.ramEnable = false ∧ s.cart.bankMode = false
      ∧ s.cart.latchPrev = 0xFF ∧ s.cart.lat = s.cart.rtc ∧ s.cart.rtcAnchor = a.now)
    ∧ (a.par.boot = .overlay →
      s.regs = ⟨0, ⟨false, false, false, false⟩, 0, 0, 0, 0, 0, 0, 0x0000, 0x0000⟩ ∧ s.bootMapped = true ∧ s.iflag = 0
        ∧ s.timer.sysclk = 0 ∧ s.ppu.lcdc = 0x00 ∧ s.ppu.mode = .hBlank ∧ s.apu.on = false ∧ s.apu.nr50 = 0 ∧ s.apu.nr51 = 0)
    ∧ (a.par.boot = .skip →
      s.regs = ⟨0x01, ⟨true, false, true, true⟩, 0x00, 0x13, 0x00, 0xD8, 0x01, 0x4D, 0xFFFE, 0x0100⟩
        ∧ s.bootMapped = false ∧ s.iflag = 0b00001 ∧ s.timer.sysclk = 0xABCC ∧ s.ppu.lcdc = 0x91 ∧ s.ppu.mode = .oamScan
        ∧ s.apu.on = true ∧ s.apu.nr50 = 0x77 ∧ s.apu.nr51 = 0xF3)
    ∧ ((a.save = none ∨ s.cart.kind = .romOnly) → s.cart.ram = [] ∧ s.cart.rtc = .zero)
    ∧ ∀ bytes : List Byte, a.save = some bytes → s.cart.kind = .mbc3Rtc →
      let reg (k : Nat) : Byte := bytes.getD (size + k) 0
      (size ≤ bytes.length → ∀ i, s.cart.ram.read i = if i < size then bytes.getD i 0 else 0)
      ∧ (bytes.length < size → s.cart.ram = [])
      ∧ (bytes.length < whole → s.cart.rtc = .zero)
      ∧ (whole ≤ bytes.length → a.par.rtcSaveLayout = Params.default.rtcSaveLayout →
        s.cart.rtc
          = { s := (reg 0).extractLsb' 0 6, m := (reg 1).extractLsb' 0 6, h := (reg 2).extractLsb' 0 5, dl := reg 3,
              day8 := (reg 4).getLsbD 0, halt := (reg 4).getLsbD 6, carry := (reg 4).getLsbD 7 })

end
end

