-- ==== Sys2Proof/Laws/Memory.lean ====
section
/-!
SUPPORT. The laws of a storage array: a read after a write, and the canonical form kept by every memory operation.
-/
namespace Sys2Proof.Machine

@[simp] theorem Memory.read_nil (a : Nat) : Memory.read [] a = Memory.blank := rfl

/-- Below every listed index an array reads blank. -/
theorem Memory.read_of_lt : ∀ (m : Memory) (a : Nat), (∀ c ∈ m, a < c.1) → m.read a = Memory.blank
  | [], _, _ => rfl
  | (k, w) :: m, a, h => by
    have hk : a < k := h (k, w) (List.mem_cons_self ..)
    simp only [Memory.read, if_neg (Nat.ne_of_lt hk)]
    exact Memory.read_of_lt m a fun c hc => h c (List.mem_cons_of_mem _ hc)

/-- Read after write, in an array with rising indices. -/
theorem Memory.read_write : ∀ (m : Memory) (a b : Nat) (v : Byte), m.wf →
    (m.write a v).read b = if b = a then v else m.read b
  | [], a, b, v, _ => by
    by_cases hv : v = Memory.blank <;> by_cases hb : b = a <;> simp [Memory.write, Memory.read, hv, hb]
  | (k, w) :: m, a, b, v, h => by
    have hm : Memory.wf m := ⟨h.1.of_cons, fun c hc => h.2 c (List.mem_cons_of_mem _ hc)⟩
    have hk : ∀ c ∈ m, k < c.1 := fun c hc => List.rel_of_pairwise_cons h.1 hc
    unfold Memory.write
    by_cases h1 : a < k
    · have ha : Memory.read ((k, w) :: m) a = Memory.blank :=
        Memory.read_of_lt _ _ fun c hc => by
          rcases List.mem_cons.1 hc with rfl | hc
          · exact h1
          · exact Nat.lt_trans h1 (hk c hc)
      by_cases hv : v = Memory.blank <;> by_cases hb : b = a <;> simp_all [Memory.read]
    · by_cases h2 : a = k
      · subst h2
        have ha : Memory.read m a = Memory.blank := Memory.read_of_lt _ _ hk
        by_cases hv : v = Memory.blank <;> by_cases hb : b = a <;> simp_all [Memory.read]
      · simp only [if_neg h1, if_neg h2, Memory.read]
        by_cases hb : b = k
        · subst hb
          simp [Ne.symm h2]
        · simp only [if_neg hb]
          exact Memory.read_write m a b v hm

/-- Every index listed after a write was listed before or is the one written. -/
theorem Memory.mem_write : ∀ (m : Memory) (a : Nat) (v : Byte), ∀ c ∈ m.write a v, c ∈ m ∨ (c.1 = a ∧ c.2 ≠ Memory.blank)
  | [], a, v, c, hc => by
    by_cases hv : v = Memory.blank
    · simp [Memory.write, hv] at hc
    · simp only [Memory.write, if_neg hv, List.mem_singleton] at hc
      subst hc
      exact .inr ⟨rfl, hv⟩
  | (k, w) :: m, a, v, c, hc => by
    unfold Memory.write at hc
    by_cases h1 : a < k
    · by_cases hv : v = Memory.blank
      · simp only [if_pos h1, if_pos hv] at hc
        exact .inl hc
      · simp only [if_pos h1, if_neg hv] at hc
        rcases List.mem_cons.1 hc with rfl | hc
        · exact .inr ⟨rfl, hv⟩
        · exact .inl hc
    · by_cases h2 : a = k
      · by_cases hv : v = Memory.blank
        · simp only [if_neg h1, if_pos h2, if_pos hv] at hc
          exact .inl (List.mem_cons_of_mem _ hc)
        · simp only [if_neg h1, if_pos h2, if_neg hv] at hc
          rcases List.mem_cons.1 hc with rfl | hc
          · exact .inr ⟨rfl, hv⟩
          · exact .inl (List.mem_cons_of_mem _ hc)
      · simp only [if_neg h1, if_neg h2] at hc
        rcases List.mem_cons.1 hc with rfl | hc
        · exact .inl (List.mem_cons_self ..)
        · rcases Memory.mem_write m a v c hc with h | h
          · exact .inl (List.mem_cons_of_mem _ h)
          · exact .inr h

/-- A write keeps the canonical form. -/
theorem Memory.wf_write : ∀ (m : Memory) (a : Nat) (v : Byte), m.wf → (m.write a v).wf
  | [], a, v, _ => by
    by_cases hv : v = Memory.blank <;> simp [Memory.write, hv, Memory.wf]
  | (k, w) :: m, a, v, h => by
    have hm : Memory.wf m := ⟨h.1.of_cons, fun c hc => h.2 c (List.mem_cons_of_mem _ hc)⟩
    have hk : ∀ c ∈ m, k < c.1 := fun c hc => List.rel_of_pairwise_cons h.1 hc
    have hw : w ≠ Memory.blank := h.2 (k, w) (List.mem_cons_self ..)
    refine ⟨?_, fun c hc => ?_⟩
    · unfold Memory.write
      by_cases h1 : a < k
      · by_cases hv : v = Memory.blank
        · simpa only [if_pos h1, if_pos hv] using h.1
        · simp only [if_pos h1, if_neg hv, List.pairwise_cons]
          refine ⟨fun c hc => ?_, hk, hm.1⟩
          rcases List.mem_cons.1 hc with rfl | hc
          · exact h1
          · exact Nat.lt_trans h1 (hk c hc)
      · by_cases h2 : a = k
        · by_cases hv : v = Memory.blank
          · simpa only [if_neg h1, if_pos h2, if_pos hv] using hm.1
          · simp only [if_neg h1, if_pos h2, if_neg hv, List.pairwise_cons]
            exact ⟨fun c hc => h2 ▸ hk c hc, hm.1⟩
        · simp only [if_neg h1, if_neg h2, List.pairwise_cons]
          refine ⟨fun c hc => ?_, (Memory.wf_write m a v hm).1⟩
          rcases Memory.mem_write m a v c hc with hc | ⟨hc, _⟩
          · exact hk c hc
          · show k < c.1
            omega
    · rcases Memory.mem_write _ a v c hc with hc | ⟨_, hc⟩
      · exact h.2 c hc
      · exact hc

/-- A write inside the array keeps its size. -/
theorem Memory.below_write {m : Memory} {n a : Nat} (v : Byte) (h : m.below n) (ha : a < n) : (m.write a v).below n := by
  intro c hc
  rcases Memory.mem_write m a v c hc with hc | ⟨hc, _⟩
  · exact h c hc
  · omega

/-- A write inside the array keeps it fitting. -/
theorem Memory.Fits.write {m : Memory} {n a : Nat} (v : Byte) (h : m.Fits n) (ha : a < n) : (m.write a v).Fits n :=
  ⟨Memory.wf_write m a v h.1, Memory.below_write v h.2 ha⟩

/-- A run of writes keeps the canonical form. -/
theorem Memory.wf_writeAll : ∀ (vs : List Byte) (m : Memory) (a : Nat), m.wf → (m.writeAll a vs).wf
  | [], _, _, h => h
  | v :: vs, m, a, h => Memory.wf_writeAll vs (m.write a v) (a + 1) (Memory.wf_write m a v h)

/-- A run of writes inside the array keeps its size. -/
theorem Memory.below_writeAll : ∀ (vs : List Byte) {m : Memory} {n a : Nat}, m.below n → a + vs.length ≤ n →
    (m.writeAll a vs).below n
  | [], _, _, _, h, _ => h
  | v :: vs, _, _, _, h, hl => by
    simp only [List.length_cons] at hl
    exact Memory.below_writeAll vs (Memory.below_write v h (by omega)) (by omega)

/-- Splicing two canonical arrays is canonical. -/
theorem Memory.wf_splice {low high : Memory} (n : Nat) (hl : low.wf) (hh : high.wf) : (low.splice high n).wf := by
  refine ⟨List.pairwise_append.2 ⟨hl.1.filter _, hh.1.filter _, fun x hx y hy => ?_⟩, fun c hc => ?_⟩
  · simp only [List.mem_filter, decide_eq_true_eq] at hx hy
    omega
  · rcases List.mem_append.1 hc with hc | hc
    · exact hl.2 c (List.mem_filter.1 hc).1
    · exact hh.2 c (List.mem_filter.1 hc).1

/-- The tail of a canonical array is canonical, and the head's index lies below all of it. -/
theorem Memory.wf_cons {k : Nat} {w : Byte} {m : Memory} (h : Memory.wf ((k, w) :: m)) :
    Memory.wf m ∧ w ≠ Memory.blank ∧ ∀ c ∈ m, k < c.1 :=
  ⟨⟨h.1.of_cons, fun c hc => h.2 c (List.mem_cons_of_mem _ hc)⟩, h.2 (k, w) (List.mem_cons_self ..),
    fun _ hc => List.rel_of_pairwise_cons h.1 hc⟩

/-- Two canonical arrays that read alike are equal: equal memories are equal data. -/
theorem Memory.ext_read : ∀ (m n : Memory), m.wf → n.wf → (∀ a, m.read a = n.read a) → m = n
  | [], [], _, _, _ => rfl
  | [], (k, w) :: n, _, hn, h => absurd (by simpa [Memory.read] using (h k).symm) (Memory.wf_cons hn).2.1
  | (k, w) :: m, [], hm, _, h => absurd (by simpa [Memory.read] using h k) (Memory.wf_cons hm).2.1
  | (k, w) :: m, (j, x) :: n, hm, hn, h => by
    obtain ⟨hm1, hm2, hm3⟩ := Memory.wf_cons hm
    obtain ⟨hn1, hn2, hn3⟩ := Memory.wf_cons hn
    have hmk : Memory.read m k = Memory.blank := Memory.read_of_lt _ _ hm3
    have hnj : Memory.read n j = Memory.blank := Memory.read_of_lt _ _ hn3
    rcases Nat.lt_trichotomy k j with hkj | hkj | hkj
    · have h' := h k
      have hb : Memory.read n k = Memory.blank := Memory.read_of_lt _ _ fun c hc => Nat.lt_trans hkj (hn3 c hc)
      simp only [Memory.read, if_true, if_neg (Nat.ne_of_lt hkj), hb] at h'
      exact absurd h' hm2
    · subst hkj
      have hwx : w = x := by simpa [Memory.read] using h k
      subst hwx
      refine congrArg _ (Memory.ext_read m n hm1 hn1 fun a => ?_)
      by_cases ha : a = k
      · subst ha
        rw [hmk, hnj]
      · simpa [Memory.read, ha] using h a
    · have h' := h j
      have hb : Memory.read m j = Memory.blank := Memory.read_of_lt _ _ fun c hc => Nat.lt_trans hkj (hm3 c hc)
      simp only [Memory.read, if_true, if_neg (Nat.ne_of_lt hkj), hb] at h'
      exact absurd h'.symm hn2

/-- Read after a run of writes. -/
theorem Memory.read_writeAll : ∀ (vs : List Byte) (m : Memory) (a b : Nat), m.wf →
    (m.writeAll a vs).read b = if a ≤ b ∧ b < a + vs.length then vs.getD (b - a) 0 else m.read b
  | [], m, a, b, _ => by
    have : ¬ (a ≤ b ∧ b < a + ([] : List Byte).length) := by simp only [List.length_nil]; omega
    rw [if_neg this]
    rfl
  | v :: vs, m, a, b, h => by
    have ih := Memory.read_writeAll vs (m.write a v) (a + 1) b (Memory.wf_write m a v h)
    show ((m.write a v).writeAll (a + 1) vs).read b = _
    rw [ih, Memory.read_write m a b v h]
    simp only [List.length_cons]
    by_cases h1 : a + 1 ≤ b ∧ b < a + 1 + vs.length
    · rw [if_pos h1, if_pos (by omega), show b - a = (b - (a + 1)) + 1 by omega, List.getD_cons_succ]
    · rw [if_neg h1]
      by_cases h2 : b = a
      · subst h2
        rw [if_pos rfl, if_pos (by omega), Nat.sub_self, List.getD_cons_zero]
      · rw [if_neg h2, if_neg (by omega)]

/-- The cells of an array built from bytes. -/
theorem Memory.read_ofBytes (bs : List Byte) (a : Nat) : (Memory.ofBytes bs).read a = bs.getD a 0 := by
  unfold Memory.ofBytes
  rw [Memory.read_writeAll bs [] 0 a ⟨.nil, by simp⟩]
  by_cases h : a < bs.length
  · rw [if_pos (by omega), Nat.sub_zero]
  · rw [if_neg (by omega), show bs.getD a 0 = 0 by simp [List.getD, List.getElem?_eq_none (show bs.length ≤ a by omega)]]
    rfl

end Sys2Proof.Machine
end

