-- ==== Sys2Proof/Laws/State.lean ====
section
/-!
SUPPORT. One lemma per field of `State` for every state setter, and the register file's read-after-write laws, so that no
proof unfolds a record update.
-/
namespace Sys2Proof.Machine

/-! ### Setters and fields -/

@[simp] theorem State.withRegs_regs (s : State) (r : Regs) : (s.withRegs r).regs = r := rfl
@[simp] theorem State.withRegs_ime (s : State) (r : Regs) : (s.withRegs r).ime = s.ime := rfl
@[simp] theorem State.withRegs_ie (s : State) (r : Regs) : (s.withRegs r).ie = s.ie := rfl
@[simp] theorem State.withRegs_iflag (s : State) (r : Regs) : (s.withRegs r).iflag = s.iflag := rfl
@[simp] theorem State.withRegs_halted (s : State) (r : Regs) : (s.withRegs r).halted = s.halted := rfl
@[simp] theorem State.withRegs_haltBug (s : State) (r : Regs) : (s.withRegs r).haltBug = s.haltBug := rfl
@[simp] theorem State.withRegs_eiPending (s : State) (r : Regs) : (s.withRegs r).eiPending = s.eiPending := rfl
@[simp] theorem State.withRegs_dmaStall (s : State) (r : Regs) : (s.withRegs r).dmaStall = s.dmaStall := rfl
@[simp] theorem State.withRegs_fault (s : State) (r : Regs) : (s.withRegs r).fault = s.fault := rfl
@[simp] theorem State.withRegs_cost (s : State) (r : Regs) : (s.withRegs r).cost = s.cost := rfl
@[simp] theorem State.withRegs_bootMapped (s : State) (r : Regs) : (s.withRegs r).bootMapped = s.bootMapped := rfl
@[simp] theorem State.withRegs_bootImage (s : State) (r : Regs) : (s.withRegs r).bootImage = s.bootImage := rfl
@[simp] theorem State.withRegs_vram (s : State) (r : Regs) : (s.withRegs r).vram = s.vram := rfl
@[simp] theorem State.withRegs_wram (s : State) (r : Regs) : (s.withRegs r).wram = s.wram := rfl
@[simp] theorem State.withRegs_oam (s : State) (r : Regs) : (s.withRegs r).oam = s.oam := rfl
@[simp] theorem State.withRegs_hram (s : State) (r : Regs) : (s.withRegs r).hram = s.hram := rfl
@[simp] theorem State.withRegs_dmaReg (s : State) (r : Regs) : (s.withRegs r).dmaReg = s.dmaReg := rfl
@[simp] theorem State.withRegs_timer (s : State) (r : Regs) : (s.withRegs r).timer = s.timer := rfl
@[simp] theorem State.withRegs_input (s : State) (r : Regs) : (s.withRegs r).input = s.input := rfl
@[simp] theorem State.withRegs_serial (s : State) (r : Regs) : (s.withRegs r).serial = s.serial := rfl
@[simp] theorem State.withRegs_cart (s : State) (r : Regs) : (s.withRegs r).cart = s.cart := rfl
@[simp] theorem State.withRegs_ppu (s : State) (r : Regs) : (s.withRegs r).ppu = s.ppu := rfl
@[simp] theorem State.withRegs_apu (s : State) (r : Regs) : (s.withRegs r).apu = s.apu := rfl
@[simp] theorem State.withRegs_par (s : State) (r : Regs) : (s.withRegs r).par = s.par := rfl
@[simp] theorem State.withRegs_host (s : State) (r : Regs) : (s.withRegs r).host = s.host := rfl

@[simp] theorem State.setPc_regs (s : State) (v : Word) : (s.setPc v).regs = { s.regs with pc := v } := rfl
@[simp] theorem State.setPc_ime (s : State) (v : Word) : (s.setPc v).ime = s.ime := rfl
@[simp] theorem State.setPc_ie (s : State) (v : Word) : (s.setPc v).ie = s.ie := rfl
@[simp] theorem State.setPc_iflag (s : State) (v : Word) : (s.setPc v).iflag = s.iflag := rfl
@[simp] theorem State.setPc_halted (s : State) (v : Word) : (s.setPc v).halted = s.halted := rfl
@[simp] theorem State.setPc_haltBug (s : State) (v : Word) : (s.setPc v).haltBug = s.haltBug := rfl
@[simp] theorem State.setPc_eiPending (s : State) (v : Word) : (s.setPc v).eiPending = s.eiPending := rfl
@[simp] theorem State.setPc_dmaStall (s : State) (v : Word) : (s.setPc v).dmaStall = s.dmaStall := rfl
@[simp] theorem State.setPc_fault (s : State) (v : Word) : (s.setPc v).fault = s.fault := rfl
@[simp] theorem State.setPc_cost (s : State) (v : Word) : (s.setPc v).cost = s.cost := rfl
@[simp] theorem State.setPc_bootMapped (s : State) (v : Word) : (s.setPc v).bootMapped = s.bootMapped := rfl
@[simp] theorem State.setPc_bootImage (s : State) (v : Word) : (s.setPc v).bootImage = s.bootImage := rfl
@[simp] theorem State.setPc_vram (s : State) (v : Word) : (s.setPc v).vram = s.vram := rfl
@[simp] theorem State.setPc_wram (s : State) (v : Word) : (s.setPc v).wram = s.wram := rfl
@[simp] theorem State.setPc_oam (s : State) (v : Word) : (s.setPc v).oam = s.oam := rfl
@[simp] theorem State.setPc_hram (s : State) (v : Word) : (s.setPc v).hram = s.hram := rfl
@[simp] theorem State.setPc_dmaReg (s : State) (v : Word) : (s.setPc v).dmaReg = s.dmaReg := rfl
@[simp] theorem State.setPc_timer (s : State) (v : Word) : (s.setPc v).timer = s.timer := rfl
@[simp] theorem State.setPc_input (s : State) (v : Word) : (s.setPc v).input = s.input := rfl
@[simp] theorem State.setPc_serial (s : State) (v : Word) : (s.setPc v).serial = s.serial := rfl
@[simp] theorem State.setPc_cart (s : State) (v : Word) : (s.setPc v).cart = s.cart := rfl
@[simp] theorem State.setPc_ppu (s : State) (v : Word) : (s.setPc v).ppu = s.ppu := rfl
@[simp] theorem State.setPc_apu (s : State) (v : Word) : (s.setPc v).apu = s.apu := rfl
@[simp] theorem State.setPc_par (s : State) (v : Word) : (s.setPc v).par = s.par := rfl
@[simp] theorem State.setPc_host (s : State) (v : Word) : (s.setPc v).host = s.host := rfl

@[simp] theorem State.setSp_regs (s : State) (v : Word) : (s.setSp v).regs = { s.regs with sp := v } := rfl
@[simp] theorem State.setSp_ime (s : State) (v : Word) : (s.setSp v).ime = s.ime := rfl
@[simp] theorem State.setSp_ie (s : State) (v : Word) : (s.setSp v).ie = s.ie := rfl
@[simp] theorem State.setSp_iflag (s : State) (v : Word) : (s.setSp v).iflag = s.iflag := rfl
@[simp] theorem State.setSp_halted (s : State) (v : Word) : (s.setSp v).halted = s.halted := rfl
@[simp] theorem State.setSp_haltBug (s : State) (v : Word) : (s.setSp v).haltBug = s.haltBug := rfl
@[simp] theorem State.setSp_eiPending (s : State) (v : Word) : (s.setSp v).eiPending = s.eiPending := rfl
@[simp] theorem State.setSp_dmaStall (s : State) (v : Word) : (s.setSp v).dmaStall = s.dmaStall := rfl
@[simp] theorem State.setSp_fault (s : State) (v : Word) : (s.setSp v).fault = s.fault := rfl
@[simp] theorem State.setSp_cost (s : State) (v : Word) : (s.setSp v).cost = s.cost := rfl
@[simp] theorem State.setSp_bootMapped (s : State) (v : Word) : (s.setSp v).bootMapped = s.bootMapped := rfl
@[simp] theorem State.setSp_bootImage (s : State) (v : Word) : (s.setSp v).bootImage = s.bootImage := rfl
@[simp] theorem State.setSp_vram (s : State) (v : Word) : (s.setSp v).vram = s.vram := rfl
@[simp] theorem State.setSp_wram (s : State) (v : Word) : (s.setSp v).wram = s.wram := rfl
@[simp] theorem State.setSp_oam (s : State) (v : Word) : (s.setSp v).oam = s.oam := rfl
@[simp] theorem State.setSp_hram (s : State) (v : Word) : (s.setSp v).hram = s.hram := rfl
@[simp] theorem State.setSp_dmaReg (s : State) (v : Word) : (s.setSp v).dmaReg = s.dmaReg := rfl
@[simp] theorem State.setSp_timer (s : State) (v : Word) : (s.setSp v).timer = s.timer := rfl
@[simp] theorem State.setSp_input (s : State) (v : Word) : (s.setSp v).input = s.input := rfl
@[simp] theorem State.setSp_serial (s : State) (v : Word) : (s.setSp v).serial = s.serial := rfl
@[simp] theorem State.setSp_cart (s : State) (v : Word) : (s.setSp v).cart = s.cart := rfl
@[simp] theorem State.setSp_ppu (s : State) (v : Word) : (s.setSp v).ppu = s.ppu := rfl
@[simp] theorem State.setSp_apu (s : State) (v : Word) : (s.setSp v).apu = s.apu := rfl
@[simp] theorem State.setSp_par (s : State) (v : Word) : (s.setSp v).par = s.par := rfl
@[simp] theorem State.setSp_host (s : State) (v : Word) : (s.setSp v).host = s.host := rfl

@[simp] theorem State.setA_regs (s : State) (v : Byte) : (s.setA v).regs = { s.regs with a := v } := rfl
@[simp] theorem State.setA_ime (s : State) (v : Byte) : (s.setA v).ime = s.ime := rfl
@[simp] theorem State.setA_ie (s : State) (v : Byte) : (s.setA v).ie = s.ie := rfl
@[simp] theorem State.setA_iflag (s : State) (v : Byte) : (s.setA v).iflag = s.iflag := rfl
@[simp] theorem State.setA_halted (s : State) (v : Byte) : (s.setA v).halted = s.halted := rfl
@[simp] theorem State.setA_haltBug (s : State) (v : Byte) : (s.setA v).haltBug = s.haltBug := rfl
@[simp] theorem State.setA_eiPending (s : State) (v : Byte) : (s.setA v).eiPending = s.eiPending := rfl
@[simp] theorem State.setA_dmaStall (s : State) (v : Byte) : (s.setA v).dmaStall = s.dmaStall := rfl
@[simp] theorem State.setA_fault (s : State) (v : Byte) : (s.setA v).fault = s.fault := rfl
@[simp] theorem State.setA_cost (s : State) (v : Byte) : (s.setA v).cost = s.cost := rfl
@[simp] theorem State.setA_bootMapped (s : State) (v : Byte) : (s.setA v).bootMapped = s.bootMapped := rfl
@[simp] theorem State.setA_bootImage (s : State) (v : Byte) : (s.setA v).bootImage = s.bootImage := rfl
@[simp] theorem State.setA_vram (s : State) (v : Byte) : (s.setA v).vram = s.vram := rfl
@[simp] theorem State.setA_wram (s : State) (v : Byte) : (s.setA v).wram = s.wram := rfl
@[simp] theorem State.setA_oam (s : State) (v : Byte) : (s.setA v).oam = s.oam := rfl
@[simp] theorem State.setA_hram (s : State) (v : Byte) : (s.setA v).hram = s.hram := rfl
@[simp] theorem State.setA_dmaReg (s : State) (v : Byte) : (s.setA v).dmaReg = s.dmaReg := rfl
@[simp] theorem State.setA_timer (s : State) (v : Byte) : (s.setA v).timer = s.timer := rfl
@[simp] theorem State.setA_input (s : State) (v : Byte) : (s.setA v).input = s.input := rfl
@[simp] theorem State.setA_serial (s : State) (v : Byte) : (s.setA v).serial = s.serial := rfl
@[simp] theorem State.setA_cart (s : State) (v : Byte) : (s.setA v).cart = s.cart := rfl
@[simp] theorem State.setA_ppu (s : State) (v : Byte) : (s.setA v).ppu = s.ppu := rfl
@[simp] theorem State.setA_apu (s : State) (v : Byte) : (s.setA v).apu = s.apu := rfl
@[simp] theorem State.setA_par (s : State) (v : Byte) : (s.setA v).par = s.par := rfl
@[simp] theorem State.setA_host (s : State) (v : Byte) : (s.setA v).host = s.host := rfl

@[simp] theorem State.setFlags_regs (s : State) (f : Flags) : (s.setFlags f).regs = { s.regs with f := f } := rfl
@[simp] theorem State.setFlags_ime (s : State) (f : Flags) : (s.setFlags f).ime = s.ime := rfl
@[simp] theorem State.setFlags_ie (s : State) (f : Flags) : (s.setFlags f).ie = s.ie := rfl
@[simp] theorem State.setFlags_iflag (s : State) (f : Flags) : (s.setFlags f).iflag = s.iflag := rfl
@[simp] theorem State.setFlags_halted (s : State) (f : Flags) : (s.setFlags f).halted = s.halted := rfl
@[simp] theorem State.setFlags_haltBug (s : State) (f : Flags) : (s.setFlags f).haltBug = s.haltBug := rfl
@[simp] theorem State.setFlags_eiPending (s : State) (f : Flags) : (s.setFlags f).eiPending = s.eiPending := rfl
@[simp] theorem State.setFlags_dmaStall (s : State) (f : Flags) : (s.setFlags f).dmaStall = s.dmaStall := rfl
@[simp] theorem State.setFlags_fault (s : State) (f : Flags) : (s.setFlags f).fault = s.fault := rfl
@[simp] theorem State.setFlags_cost (s : State) (f : Flags) : (s.setFlags f).cost = s.cost := rfl
@[simp] theorem State.setFlags_bootMapped (s : State) (f : Flags) : (s.setFlags f).bootMapped = s.bootMapped := rfl
@[simp] theorem State.setFlags_bootImage (s : State) (f : Flags) : (s.setFlags f).bootImage = s.bootImage := rfl
@[simp] theorem State.setFlags_vram (s : State) (f : Flags) : (s.setFlags f).vram = s.vram := rfl
@[simp] theorem State.setFlags_wram (s : State) (f : Flags) : (s.setFlags f).wram = s.wram := rfl
@[simp] theorem State.setFlags_oam (s : State) (f : Flags) : (s.setFlags f).oam = s.oam := rfl
@[simp] theorem State.setFlags_hram (s : State) (f : Flags) : (s.setFlags f).hram = s.hram := rfl
@[simp] theorem State.setFlags_dmaReg (s : State) (f : Flags) : (s.setFlags f).dmaReg = s.dmaReg := rfl
@[simp] theorem State.setFlags_timer (s : State) (f : Flags) : (s.setFlags f).timer = s.timer := rfl
@[simp] theorem State.setFlags_input (s : State) (f : Flags) : (s.setFlags f).input = s.input := rfl
@[simp] theorem State.setFlags_serial (s : State) (f : Flags) : (s.setFlags f).serial = s.serial := rfl
@[simp] theorem State.setFlags_cart (s : State) (f : Flags) : (s.setFlags f).cart = s.cart := rfl
@[simp] theorem State.setFlags_ppu (s : State) (f : Flags) : (s.setFlags f).ppu = s.ppu := rfl
@[simp] theorem State.setFlags_apu (s : State) (f : Flags) : (s.setFlags f).apu = s.apu := rfl
@[simp] theorem State.setFlags_par (s : State) (f : Flags) : (s.setFlags f).par = s.par := rfl
@[simp] theorem State.setFlags_host (s : State) (f : Flags) : (s.setFlags f).host = s.host := rfl

@[simp] theorem State.setReg8_regs (s : State) (x : Reg8) (v : Byte) : (s.setReg8 x v).regs = s.regs.set8 x v := rfl
@[simp] theorem State.setReg8_ime (s : State) (x : Reg8) (v : Byte) : (s.setReg8 x v).ime = s.ime := rfl
@[simp] theorem State.setReg8_ie (s : State) (x : Reg8) (v : Byte) : (s.setReg8 x v).ie = s.ie := rfl
@[simp] theorem State.setReg8_iflag (s : State) (x : Reg8) (v : Byte) : (s.setReg8 x v).iflag = s.iflag := rfl
@[simp] theorem State.setReg8_halted (s : State) (x : Reg8) (v : Byte) : (s.setReg8 x v).halted = s.halted := rfl
@[simp] theorem State.setReg8_haltBug (s : State) (x : Reg8) (v : Byte) : (s.setReg8 x v).haltBug = s.haltBug := rfl
@[simp] theorem State.setReg8_eiPending (s : State) (x : Reg8) (v : Byte) : (s.setReg8 x v).eiPending = s.eiPending := rfl
@[simp] theorem State.setReg8_dmaStall (s : State) (x : Reg8) (v : Byte) : (s.setReg8 x v).dmaStall = s.dmaStall := rfl
@[simp] theorem State.setReg8_fault (s : State) (x : Reg8) (v : Byte) : (s.setReg8 x v).fault = s.fault := rfl
@[simp] theorem State.setReg8_cost (s : State) (x : Reg8) (v : Byte) : (s.setReg8 x v).cost = s.cost := rfl
@[simp] theorem State.setReg8_bootMapped (s : State) (x : Reg8) (v : Byte) : (s.setReg8 x v).bootMapped = s.bootMapped := rfl
@[simp] theorem State.setReg8_bootImage (s : State) (x : Reg8) (v : Byte) : (s.setReg8 x v).bootImage = s.bootImage := rfl
@[simp] theorem State.setReg8_vram (s : State) (x : Reg8) (v : Byte) : (s.setReg8 x v).vram = s.vram := rfl
@[simp] theorem State.setReg8_wram (s : State) (x : Reg8) (v : Byte) : (s.setReg8 x v).wram = s.wram := rfl
@[simp] theorem State.setReg8_oam (s : State) (x : Reg8) (v : Byte) : (s.setReg8 x v).oam = s.oam := rfl
@[simp] theorem State.setReg8_hram (s : State) (x : Reg8) (v : Byte) : (s.setReg8 x v).hram = s.hram := rfl
@[simp] theorem State.setReg8_dmaReg (s : State) (x : Reg8) (v : Byte) : (s.setReg8 x v).dmaReg = s.dmaReg := rfl
@[simp] theorem State.setReg8_timer (s : State) (x : Reg8) (v : Byte) : (s.setReg8 x v).timer = s.timer := rfl
@[simp] theorem State.setReg8_input (s : State) (x : Reg8) (v : Byte) : (s.setReg8 x v).input = s.input := rfl
@[simp] theorem State.setReg8_serial (s : State) (x : Reg8) (v : Byte) : (s.setReg8 x v).serial = s.serial := rfl
@[simp] theorem State.setReg8_cart (s : State) (x : Reg8) (v : Byte) : (s.setReg8 x v).cart = s.cart := rfl
@[simp] theorem State.setReg8_ppu (s : State) (x : Reg8) (v : Byte) : (s.setReg8 x v).ppu = s.ppu := rfl
@[simp] theorem State.setReg8_apu (s : State) (x : Reg8) (v : Byte) : (s.setReg8 x v).apu = s.apu := rfl
@[simp] theorem State.setReg8_par (s : State) (x : Reg8) (v : Byte) : (s.setReg8 x v).par = s.par := rfl
@[simp] theorem State.setReg8_host (s : State) (x : Reg8) (v : Byte) : (s.setReg8 x v).host = s.host := rfl

@[simp] theorem State.setPair_regs (s : State) (p : Pair) (v : Word) : (s.setPair p v).regs = s.regs.setPair p v := rfl
@[simp] theorem State.setPair_ime (s : State) (p : Pair) (v : Word) : (s.setPair p v).ime = s.ime := rfl
@[simp] theorem State.setPair_ie (s : State) (p : Pair) (v : Word) : (s.setPair p v).ie = s.ie := rfl
@[simp] theorem State.setPair_iflag (s : State) (p : Pair) (v : Word) : (s.setPair p v).iflag = s.iflag := rfl
@[simp] theorem State.setPair_halted (s : State) (p : Pair) (v : Word) : (s.setPair p v).halted = s.halted := rfl
@[simp] theorem State.setPair_haltBug (s : State) (p : Pair) (v : Word) : (s.setPair p v).haltBug = s.haltBug := rfl
@[simp] theorem State.setPair_eiPending (s : State) (p : Pair) (v : Word) : (s.setPair p v).eiPending = s.eiPending := rfl
@[simp] theorem State.setPair_dmaStall (s : State) (p : Pair) (v : Word) : (s.setPair p v).dmaStall = s.dmaStall := rfl
@[simp] theorem State.setPair_fault (s : State) (p : Pair) (v : Word) : (s.setPair p v).fault = s.fault := rfl
@[simp] theorem State.setPair_cost (s : State) (p : Pair) (v : Word) : (s.setPair p v).cost = s.cost := rfl
@[simp] theorem State.setPair_bootMapped (s : State) (p : Pair) (v : Word) : (s.setPair p v).bootMapped = s.bootMapped := rfl
@[simp] theorem State.setPair_bootImage (s : State) (p : Pair) (v : Word) : (s.setPair p v).bootImage = s.bootImage := rfl
@[simp] theorem State.setPair_vram (s : State) (p : Pair) (v : Word) : (s.setPair p v).vram = s.vram := rfl
@[simp] theorem State.setPair_wram (s : State) (p : Pair) (v : Word) : (s.setPair p v).wram = s.wram := rfl
@[simp] theorem State.setPair_oam (s : State) (p : Pair) (v : Word) : (s.setPair p v).oam = s.oam := rfl
@[simp] theorem State.setPair_hram (s : State) (p : Pair) (v : Word) : (s.setPair p v).hram = s.hram := rfl
@[simp] theorem State.setPair_dmaReg (s : State) (p : Pair) (v : Word) : (s.setPair p v).dmaReg = s.dmaReg := rfl
@[simp] theorem State.setPair_timer (s : State) (p : Pair) (v : Word) : (s.setPair p v).timer = s.timer := rfl
@[simp] theorem State.setPair_input (s : State) (p : Pair) (v : Word) : (s.setPair p v).input = s.input := rfl
@[simp] theorem State.setPair_serial (s : State) (p : Pair) (v : Word) : (s.setPair p v).serial = s.serial := rfl
@[simp] theorem State.setPair_cart (s : State) (p : Pair) (v : Word) : (s.setPair p v).cart = s.cart := rfl
@[simp] theorem State.setPair_ppu (s : State) (p : Pair) (v : Word) : (s.setPair p v).ppu = s.ppu := rfl
@[simp] theorem State.setPair_apu (s : State) (p : Pair) (v : Word) : (s.setPair p v).apu = s.apu := rfl
@[simp] theorem State.setPair_par (s : State) (p : Pair) (v : Word) : (s.setPair p v).par = s.par := rfl
@[simp] theorem State.setPair_host (s : State) (p : Pair) (v : Word) : (s.setPair p v).host = s.host := rfl

@[simp] theorem State.setHl_regs (s : State) (v : Word) : (s.setHl v).regs = s.regs.setHl v := rfl
@[simp] theorem State.setHl_ime (s : State) (v : Word) : (s.setHl v).ime = s.ime := rfl
@[simp] theorem State.setHl_ie (s : State) (v : Word) : (s.setHl v).ie = s.ie := rfl
@[simp] theorem State.setHl_iflag (s : State) (v : Word) : (s.setHl v).iflag = s.iflag := rfl
@[simp] theorem State.setHl_halted (s : State) (v : Word) : (s.setHl v).halted = s.halted := rfl
@[simp] theorem State.setHl_haltBug (s : State) (v : Word) : (s.setHl v).haltBug = s.haltBug := rfl
@[simp] theorem State.setHl_eiPending (s : State) (v : Word) : (s.setHl v).eiPending = s.eiPending := rfl
@[simp] theorem State.setHl_dmaStall (s : State) (v : Word) : (s.setHl v).dmaStall = s.dmaStall := rfl
@[simp] theorem State.setHl_fault (s : State) (v : Word) : (s.setHl v).fault = s.fault := rfl
@[simp] theorem State.setHl_cost (s : State) (v : Word) : (s.setHl v).cost = s.cost := rfl
@[simp] theorem State.setHl_bootMapped (s : State) (v : Word) : (s.setHl v).bootMapped = s.bootMapped := rfl
@[simp] theorem State.setHl_bootImage (s : State) (v : Word) : (s.setHl v).bootImage = s.bootImage := rfl
@[simp] theorem State.setHl_vram (s : State) (v : Word) : (s.setHl v).vram = s.vram := rfl
@[simp] theorem State.setHl_wram (s : State) (v : Word) : (s.setHl v).wram = s.wram := rfl
@[simp] theorem State.setHl_oam (s : State) (v : Word) : (s.setHl v).oam = s.oam := rfl
@[simp] theorem State.setHl_hram (s : State) (v : Word) : (s.setHl v).hram = s.hram := rfl
@[simp] theorem State.setHl_dmaReg (s : State) (v : Word) : (s.setHl v).dmaReg = s.dmaReg := rfl
@[simp] theorem State.setHl_timer (s : State) (v : Word) : (s.setHl v).timer = s.timer := rfl
@[simp] theorem State.setHl_input (s : State) (v : Word) : (s.setHl v).input = s.input := rfl
@[simp] theorem State.setHl_serial (s : State) (v : Word) : (s.setHl v).serial = s.serial := rfl
@[simp] theorem State.setHl_cart (s : State) (v : Word) : (s.setHl v).cart = s.cart := rfl
@[simp] theorem State.setHl_ppu (s : State) (v : Word) : (s.setHl v).ppu = s.ppu := rfl
@[simp] theorem State.setHl_apu (s : State) (v : Word) : (s.setHl v).apu = s.apu := rfl
@[simp] theorem State.setHl_par (s : State) (v : Word) : (s.setHl v).par = s.par := rfl
@[simp] theorem State.setHl_host (s : State) (v : Word) : (s.setHl v).host = s.host := rfl

@[simp] theorem State.withCost_regs (s : State) (n : Nat) : (s.withCost n).regs = s.regs := rfl
@[simp] theorem State.withCost_ime (s : State) (n : Nat) : (s.withCost n).ime = s.ime := rfl
@[simp] theorem State.withCost_ie (s : State) (n : Nat) : (s.withCost n).ie = s.ie := rfl
@[simp] theorem State.withCost_iflag (s : State) (n : Nat) : (s.withCost n).iflag = s.iflag := rfl
@[simp] theorem State.withCost_halted (s : State) (n : Nat) : (s.withCost n).halted = s.halted := rfl
@[simp] theorem State.withCost_haltBug (s : State) (n : Nat) : (s.withCost n).haltBug = s.haltBug := rfl
@[simp] theorem State.withCost_eiPending (s : State) (n : Nat) : (s.withCost n).eiPending = s.eiPending := rfl
@[simp] theorem State.withCost_dmaStall (s : State) (n : Nat) : (s.withCost n).dmaStall = s.dmaStall := rfl
@[simp] theorem State.withCost_fault (s : State) (n : Nat) : (s.withCost n).fault = s.fault := rfl
@[simp] theorem State.withCost_cost (s : State) (n : Nat) : (s.withCost n).cost = n := rfl
@[simp] theorem State.withCost_bootMapped (s : State) (n : Nat) : (s.withCost n).bootMapped = s.bootMapped := rfl
@[simp] theorem State.withCost_bootImage (s : State) (n : Nat) : (s.withCost n).bootImage = s.bootImage := rfl
@[simp] theorem State.withCost_vram (s : State) (n : Nat) : (s.withCost n).vram = s.vram := rfl
@[simp] theorem State.withCost_wram (s : State) (n : Nat) : (s.withCost n).wram = s.wram := rfl
@[simp] theorem State.withCost_oam (s : State) (n : Nat) : (s.withCost n).oam = s.oam := rfl
@[simp] theorem State.withCost_hram (s : State) (n : Nat) : (s.withCost n).hram = s.hram := rfl
@[simp] theorem State.withCost_dmaReg (s : State) (n : Nat) : (s.withCost n).dmaReg = s.dmaReg := rfl
@[simp] theorem State.withCost_timer (s : State) (n : Nat) : (s.withCost n).timer = s.timer := rfl
@[simp] theorem State.withCost_input (s : State) (n : Nat) : (s.withCost n).input = s.input := rfl
@[simp] theorem State.withCost_serial (s : State) (n : Nat) : (s.withCost n).serial = s.serial := rfl
@[simp] theorem State.withCost_cart (s : State) (n : Nat) : (s.withCost n).cart = s.cart := rfl
@[simp] theorem State.withCost_ppu (s : State) (n : Nat) : (s.withCost n).ppu = s.ppu := rfl
@[simp] theorem State.withCost_apu (s : State) (n : Nat) : (s.withCost n).apu = s.apu := rfl
@[simp] theorem State.withCost_par (s : State) (n : Nat) : (s.withCost n).par = s.par := rfl
@[simp] theorem State.withCost_host (s : State) (n : Nat) : (s.withCost n).host = s.host := rfl

@[simp] theorem State.requestInterrupt_regs (s : State) (i : IntSource) : (s.requestInterrupt i).regs = s.regs := rfl
@[simp] theorem State.requestInterrupt_ime (s : State) (i : IntSource) : (s.requestInterrupt i).ime = s.ime := rfl
@[simp] theorem State.requestInterrupt_ie (s : State) (i : IntSource) : (s.requestInterrupt i).ie = s.ie := rfl
@[simp] theorem State.requestInterrupt_iflag (s : State) (i : IntSource) : (s.requestInterrupt i).iflag = s.iflag ||| i.bit := rfl
@[simp] theorem State.requestInterrupt_halted (s : State) (i : IntSource) : (s.requestInterrupt i).halted = s.halted := rfl
@[simp] theorem State.requestInterrupt_haltBug (s : State) (i : IntSource) : (s.requestInterrupt i).haltBug = s.haltBug := rfl
@[simp] theorem State.requestInterrupt_eiPending (s : State) (i : IntSource) : (s.requestInterrupt i).eiPending = s.eiPending := rfl
@[simp] theorem State.requestInterrupt_dmaStall (s : State) (i : IntSource) : (s.requestInterrupt i).dmaStall = s.dmaStall := rfl
@[simp] theorem State.requestInterrupt_fault (s : State) (i : IntSource) : (s.requestInterrupt i).fault = s.fault := rfl
@[simp] theorem State.requestInterrupt_cost (s : State) (i : IntSource) : (s.requestInterrupt i).cost = s.cost := rfl
@[simp] theorem State.requestInterrupt_bootMapped (s : State) (i : IntSource) : (s.requestInterrupt i).bootMapped = s.bootMapped := rfl
@[simp] theorem State.requestInterrupt_bootImage (s : State) (i : IntSource) : (s.requestInterrupt i).bootImage = s.bootImage := rfl
@[simp] theorem State.requestInterrupt_vram (s : State) (i : IntSource) : (s.requestInterrupt i).vram = s.vram := rfl
@[simp] theorem State.requestInterrupt_wram (s : State) (i : IntSource) : (s.requestInterrupt i).wram = s.wram := rfl
@[simp] theorem State.requestInterrupt_oam (s : State) (i : IntSource) : (s.requestInterrupt i).oam = s.oam := rfl
@[simp] theorem State.requestInterrupt_hram (s : State) (i : IntSource) : (s.requestInterrupt i).hram = s.hram := rfl
@[simp] theorem State.requestInterrupt_dmaReg (s : State) (i : IntSource) : (s.requestInterrupt i).dmaReg = s.dmaReg := rfl
@[simp] theorem State.requestInterrupt_timer (s : State) (i : IntSource) : (s.requestInterrupt i).timer = s.timer := rfl
@[simp] theorem State.requestInterrupt_input (s : State) (i : IntSource) : (s.requestInterrupt i).input = s.input := rfl
@[simp] theorem State.requestInterrupt_serial (s : State) (i : IntSource) : (s.requestInterrupt i).serial = s.serial := rfl
@[simp] theorem State.requestInterrupt_cart (s : State) (i : IntSource) : (s.requestInterrupt i).cart = s.cart := rfl
@[simp] theorem State.requestInterrupt_ppu (s : State) (i : IntSource) : (s.requestInterrupt i).ppu = s.ppu := rfl
@[simp] theorem State.requestInterrupt_apu (s : State) (i : IntSource) : (s.requestInterrupt i).apu = s.apu := rfl
@[simp] theorem State.requestInterrupt_par (s : State) (i : IntSource) : (s.requestInterrupt i).par = s.par := rfl
@[simp] theorem State.requestInterrupt_host (s : State) (i : IntSource) : (s.requestInterrupt i).host = s.host := rfl

@[simp] theorem State.readNow_regs (s : State) : s.readNow.regs = s.regs := rfl
@[simp] theorem State.rtcAdvance_regs (s : State) : s.rtcAdvance.regs = s.regs := rfl
@[simp] theorem State.readNow_ime (s : State) : s.readNow.ime = s.ime := rfl
@[simp] theorem State.rtcAdvance_ime (s : State) : s.rtcAdvance.ime = s.ime := rfl
@[simp] theorem State.readNow_ie (s : State) : s.readNow.ie = s.ie := rfl
@[simp] theorem State.rtcAdvance_ie (s : State) : s.rtcAdvance.ie = s.ie := rfl
@[simp] theorem State.readNow_iflag (s : State) : s.readNow.iflag = s.iflag := rfl
@[simp] theorem State.rtcAdvance_iflag (s : State) : s.rtcAdvance.iflag = s.iflag := rfl
@[simp] theorem State.readNow_halted (s : State) : s.readNow.halted = s.halted := rfl
@[simp] theorem State.rtcAdvance_halted (s : State) : s.rtcAdvance.halted = s.halted := rfl
@[simp] theorem State.readNow_haltBug (s : State) : s.readNow.haltBug = s.haltBug := rfl
@[simp] theorem State.rtcAdvance_haltBug (s : State) : s.rtcAdvance.haltBug = s.haltBug := rfl
@[simp] theorem State.readNow_eiPending (s : State) : s.readNow.eiPending = s.eiPending := rfl
@[simp] theorem State.rtcAdvance_eiPending (s : State) : s.rtcAdvance.eiPending = s.eiPending := rfl
@[simp] theorem State.readNow_dmaStall (s : State) : s.readNow.dmaStall = s.dmaStall := rfl
@[simp] theorem State.rtcAdvance_dmaStall (s : State) : s.rtcAdvance.dmaStall = s.dmaStall := rfl
@[simp] theorem State.readNow_fault (s : State) : s.readNow.fault = s.fault := rfl
@[simp] theorem State.rtcAdvance_fault (s : State) : s.rtcAdvance.fault = s.fault := rfl
@[simp] theorem State.readNow_cost (s : State) : s.readNow.cost = s.cost := rfl
@[simp] theorem State.rtcAdvance_cost (s : State) : s.rtcAdvance.cost = s.cost := rfl
@[simp] theorem State.readNow_bootMapped (s : State) : s.readNow.bootMapped = s.bootMapped := rfl
@[simp] theorem State.rtcAdvance_bootMapped (s : State) : s.rtcAdvance.bootMapped = s.bootMapped := rfl
@[simp] theorem State.readNow_bootImage (s : State) : s.readNow.bootImage = s.bootImage := rfl
@[simp] theorem State.rtcAdvance_bootImage (s : State) : s.rtcAdvance.bootImage = s.bootImage := rfl
@[simp] theorem State.readNow_vram (s : State) : s.readNow.vram = s.vram := rfl
@[simp] theorem State.rtcAdvance_vram (s : State) : s.rtcAdvance.vram = s.vram := rfl
@[simp] theorem State.readNow_wram (s : State) : s.readNow.wram = s.wram := rfl
@[simp] theorem State.rtcAdvance_wram (s : State) : s.rtcAdvance.wram = s.wram := rfl
@[simp] theorem State.readNow_oam (s : State) : s.readNow.oam = s.oam := rfl
@[simp] theorem State.rtcAdvance_oam (s : State) : s.rtcAdvance.oam = s.oam := rfl
@[simp] theorem State.readNow_hram (s : State) : s.readNow.hram = s.hram := rfl
@[simp] theorem State.rtcAdvance_hram (s : State) : s.rtcAdvance.hram = s.hram := rfl
@[simp] theorem State.readNow_dmaReg (s : State) : s.readNow.dmaReg = s.dmaReg := rfl
@[simp] theorem State.rtcAdvance_dmaReg (s : State) : s.rtcAdvance.dmaReg = s.dmaReg := rfl
@[simp] theorem State.readNow_timer (s : State) : s.readNow.timer = s.timer := rfl
@[simp] theorem State.rtcAdvance_timer (s : State) : s.rtcAdvance.timer = s.timer := rfl
@[simp] theorem State.readNow_input (s : State) : s.readNow.input = s.input := rfl
@[simp] theorem State.rtcAdvance_input (s : State) : s.rtcAdvance.input = s.input := rfl
@[simp] theorem State.readNow_serial (s : State) : s.readNow.serial = s.serial := rfl
@[simp] theorem State.rtcAdvance_serial (s : State) : s.rtcAdvance.serial = s.serial := rfl
@[simp] theorem State.readNow_ppu (s : State) : s.readNow.ppu = s.ppu := rfl
@[simp] theorem State.rtcAdvance_ppu (s : State) : s.rtcAdvance.ppu = s.ppu := rfl
@[simp] theorem State.readNow_apu (s : State) : s.readNow.apu = s.apu := rfl
@[simp] theorem State.rtcAdvance_apu (s : State) : s.rtcAdvance.apu = s.apu := rfl
@[simp] theorem State.readNow_par (s : State) : s.readNow.par = s.par := rfl
@[simp] theorem State.rtcAdvance_par (s : State) : s.rtcAdvance.par = s.par := rfl
@[simp] theorem State.readNow_cart (s : State) : s.readNow.cart = s.cart := rfl
@[simp] theorem State.rtcAdvance_cart (s : State) : s.rtcAdvance.cart = s.cart.advanceTo s.nextNow := rfl

/-! ### The register file -/

@[simp] theorem Regs.get8_set8_same (r : Regs) (x : Reg8) (v : Byte) : (r.set8 x v).get8 x = v := by cases x <;> rfl

theorem Regs.get8_set8_other (r : Regs) {x y : Reg8} (v : Byte) (h : y ≠ x) : (r.set8 x v).get8 y = r.get8 y := by
  cases x <;> cases y <;> first | rfl | exact absurd rfl h

theorem Regs.get8_set8 (r : Regs) (x y : Reg8) (v : Byte) :
    (r.set8 x v).get8 y = if y = x then v else r.get8 y := by
  cases x <;> cases y <;> rfl

@[simp] theorem Regs.set8_get8 (r : Regs) (x : Reg8) : r.set8 x (r.get8 x) = r := by cases x <;> rfl
@[simp] theorem Regs.set8_f (r : Regs) (x : Reg8) (v : Byte) : (r.set8 x v).f = r.f := by cases x <;> rfl
@[simp] theorem Regs.set8_sp (r : Regs) (x : Reg8) (v : Byte) : (r.set8 x v).sp = r.sp := by cases x <;> rfl
@[simp] theorem Regs.set8_pc (r : Regs) (x : Reg8) (v : Byte) : (r.set8 x v).pc = r.pc := by cases x <;> rfl
@[simp] theorem Regs.setPair_f (r : Regs) (p : Pair) (v : Word) : (r.setPair p v).f = r.f := by cases p <;> rfl
@[simp] theorem Regs.setPair_a (r : Regs) (p : Pair) (v : Word) : (r.setPair p v).a = r.a := by cases p <;> rfl
@[simp] theorem Regs.setPair_pc (r : Regs) (p : Pair) (v : Word) : (r.setPair p v).pc = r.pc := by cases p <;> rfl
@[simp] theorem Regs.setHl_f (r : Regs) (v : Word) : (r.setHl v).f = r.f := rfl
@[simp] theorem Regs.setHl_a (r : Regs) (v : Word) : (r.setHl v).a = r.a := rfl
@[simp] theorem Regs.setHl_sp (r : Regs) (v : Word) : (r.setHl v).sp = r.sp := rfl
@[simp] theorem Regs.setHl_pc (r : Regs) (v : Word) : (r.setHl v).pc = r.pc := rfl

/-! ### Halves of a word -/

@[simp] theorem hiByte_pairOf (hi lo : Byte) : hiByte (pairOf hi lo) = hi := by
  apply BitVec.eq_of_getLsbD_eq
  intro i hi'
  simp only [hiByte, pairOf, BitVec.getLsbD_extractLsb', BitVec.getLsbD_append]
  simp [hi']

@[simp] theorem loByte_pairOf (hi lo : Byte) : loByte (pairOf hi lo) = lo := by
  apply BitVec.eq_of_getLsbD_eq
  intro i hi'
  simp only [loByte, pairOf, BitVec.getLsbD_extractLsb', BitVec.getLsbD_append]
  simp [hi']

@[simp] theorem pairOf_halves (w : Word) : pairOf (hiByte w) (loByte w) = w := by
  apply BitVec.eq_of_getLsbD_eq
  intro i hi'
  simp only [hiByte, loByte, pairOf, BitVec.getLsbD_append, BitVec.getLsbD_extractLsb']
  by_cases h : i < 8
  · simp [h]
  · have h2 : i - 8 < 8 := by omega
    have h3 : 8 + (i - 8) = i := by omega
    simp [h, h2, h3]

@[simp] theorem Regs.getPair_setPair (r : Regs) (p : Pair) (v : Word) : (r.setPair p v).getPair p = v := by
  cases p <;> simp [Regs.setPair, Regs.getPair, Regs.bc, Regs.de, Regs.hl, Regs.setHl]

@[simp] theorem Regs.hl_setHl (r : Regs) (v : Word) : (r.setHl v).hl = v := by simp [Regs.hl, Regs.setHl]

/-- Bits 3 to 0 of `F` read as zero. -/
theorem Flags.toByte_low (f : Flags) : f.toByte &&& 0x0F = 0 := by
  obtain ⟨z, n, h, c⟩ := f; cases z <;> cases n <;> cases h <;> cases c <;> rfl

@[simp] theorem Flags.ofByte_toByte (f : Flags) : Flags.ofByte f.toByte = f := by
  obtain ⟨z, n, h, c⟩ := f; cases z <;> cases n <;> cases h <;> cases c <;> rfl

end Sys2Proof.Machine
end

