-- ==== Sys2Proof/Laws/Bus.lean ====
section
/-!
SUPPORT. What the memory primitives leave alone: a read changes nothing but the live clock, its anchor and the `NowUs` record;
a write leaves the registers, the engine's flags, the recorded fault, the boot image and the parameters.
-/
namespace Sys2Proof.Machine

/-! ### The clock's advance -/

@[simp] theorem Cart.advanceTo_kind (c : Cart) (n : Nat) : (c.advanceTo n).kind = c.kind := by
  unfold Cart.advanceTo; split <;> rfl
@[simp] theorem Cart.advanceTo_rom (c : Cart) (n : Nat) : (c.advanceTo n).rom = c.rom := by
  unfold Cart.advanceTo; split <;> rfl
@[simp] theorem Cart.advanceTo_romSize (c : Cart) (n : Nat) : (c.advanceTo n).romSize = c.romSize := by
  unfold Cart.advanceTo; split <;> rfl
@[simp] theorem Cart.advanceTo_romBanks (c : Cart) (n : Nat) : (c.advanceTo n).romBanks = c.romBanks := by
  unfold Cart.advanceTo; split <;> rfl
@[simp] theorem Cart.advanceTo_ramBanks (c : Cart) (n : Nat) : (c.advanceTo n).ramBanks = c.ramBanks := by
  unfold Cart.advanceTo; split <;> rfl
@[simp] theorem Cart.advanceTo_ramEnable (c : Cart) (n : Nat) : (c.advanceTo n).ramEnable = c.ramEnable := by
  unfold Cart.advanceTo; split <;> rfl
@[simp] theorem Cart.advanceTo_romBank (c : Cart) (n : Nat) : (c.advanceTo n).romBank = c.romBank := by
  unfold Cart.advanceTo; split <;> rfl
@[simp] theorem Cart.advanceTo_ramSel (c : Cart) (n : Nat) : (c.advanceTo n).ramSel = c.ramSel := by
  unfold Cart.advanceTo; split <;> rfl
@[simp] theorem Cart.advanceTo_latchPrev (c : Cart) (n : Nat) : (c.advanceTo n).latchPrev = c.latchPrev := by
  unfold Cart.advanceTo; split <;> rfl
@[simp] theorem Cart.advanceTo_bankMode (c : Cart) (n : Nat) : (c.advanceTo n).bankMode = c.bankMode := by
  unfold Cart.advanceTo; split <;> rfl
@[simp] theorem Cart.advanceTo_lat (c : Cart) (n : Nat) : (c.advanceTo n).lat = c.lat := by
  unfold Cart.advanceTo; split <;> rfl
@[simp] theorem Cart.advanceTo_ram (c : Cart) (n : Nat) : (c.advanceTo n).ram = c.ram := by
  unfold Cart.advanceTo; split <;> rfl

@[simp] theorem Cart.advanceTo_ramTarget (c : Cart) (n : Nat) (a : Word) : (c.advanceTo n).ramTarget a = c.ramTarget a := by
  simp [Cart.ramTarget]

@[simp] theorem Cart.advanceTo_read (c : Cart) (n : Nat) (a : Word) : (c.advanceTo n).read a = c.read a := by
  unfold Cart.read Cart.romByte Cart.romOffset Cart.effRomBank Cart.ramWindowRead
  simp

/-! ### Reads -/

/-- A read changes nothing, or advances the live clock (spec/20_memory.md R113). -/
theorem State.touch8_cases (s : State) (a : Word) : s.touch8 a = s ∨ s.touch8 a = s.rtcAdvance := by
  unfold State.touch8
  split
  · unfold State.cartTouch
    split
    · exact .inr rfl
    · exact .inl rfl
  · exact .inl rfl

@[simp] theorem State.touch8_regs (s : State) (a : Word) : (s.touch8 a).regs = s.regs := by
  rcases s.touch8_cases a with h | h <;> rw [h]; rfl
@[simp] theorem State.touch8_ime (s : State) (a : Word) : (s.touch8 a).ime = s.ime := by
  rcases s.touch8_cases a with h | h <;> rw [h]; rfl
@[simp] theorem State.touch8_ie (s : State) (a : Word) : (s.touch8 a).ie = s.ie := by
  rcases s.touch8_cases a with h | h <;> rw [h]; rfl
@[simp] theorem State.touch8_iflag (s : State) (a : Word) : (s.touch8 a).iflag = s.iflag := by
  rcases s.touch8_cases a with h | h <;> rw [h]; rfl
@[simp] theorem State.touch8_halted (s : State) (a : Word) : (s.touch8 a).halted = s.halted := by
  rcases s.touch8_cases a with h | h <;> rw [h]; rfl
@[simp] theorem State.touch8_haltBug (s : State) (a : Word) : (s.touch8 a).haltBug = s.haltBug := by
  rcases s.touch8_cases a with h | h <;> rw [h]; rfl
@[simp] theorem State.touch8_eiPending (s : State) (a : Word) : (s.touch8 a).eiPending = s.eiPending := by
  rcases s.touch8_cases a with h | h <;> rw [h]; rfl
@[simp] theorem State.touch8_dmaStall (s : State) (a : Word) : (s.touch8 a).dmaStall = s.dmaStall := by
  rcases s.touch8_cases a with h | h <;> rw [h]; rfl
@[simp] theorem State.touch8_fault (s : State) (a : Word) : (s.touch8 a).fault = s.fault := by
  rcases s.touch8_cases a with h | h <;> rw [h]; rfl
@[simp] theorem State.touch8_cost (s : State) (a : Word) : (s.touch8 a).cost = s.cost := by
  rcases s.touch8_cases a with h | h <;> rw [h]; rfl
@[simp] theorem State.touch8_bootMapped (s : State) (a : Word) : (s.touch8 a).bootMapped = s.bootMapped := by
  rcases s.touch8_cases a with h | h <;> rw [h]; rfl
@[simp] theorem State.touch8_bootImage (s : State) (a : Word) : (s.touch8 a).bootImage = s.bootImage := by
  rcases s.touch8_cases a with h | h <;> rw [h]; rfl
@[simp] theorem State.touch8_vram (s : State) (a : Word) : (s.touch8 a).vram = s.vram := by
  rcases s.touch8_cases a with h | h <;> rw [h]; rfl
@[simp] theorem State.touch8_wram (s : State) (a : Word) : (s.touch8 a).wram = s.wram := by
  rcases s.touch8_cases a with h | h <;> rw [h]; rfl
@[simp] theorem State.touch8_oam (s : State) (a : Word) : (s.touch8 a).oam = s.oam := by
  rcases s.touch8_cases a with h | h <;> rw [h]; rfl
@[simp] theorem State.touch8_hram (s : State) (a : Word) : (s.touch8 a).hram = s.hram := by
  rcases s.touch8_cases a with h | h <;> rw [h]; rfl
@[simp] theorem State.touch8_dmaReg (s : State) (a : Word) : (s.touch8 a).dmaReg = s.dmaReg := by
  rcases s.touch8_cases a with h | h <;> rw [h]; rfl
@[simp] theorem State.touch8_timer (s : State) (a : Word) : (s.touch8 a).timer = s.timer := by
  rcases s.touch8_cases a with h | h <;> rw [h]; rfl
@[simp] theorem State.touch8_input (s : State) (a : Word) : (s.touch8 a).input = s.input := by
  rcases s.touch8_cases a with h | h <;> rw [h]; rfl
@[simp] theorem State.touch8_serial (s : State) (a : Word) : (s.touch8 a).serial = s.serial := by
  rcases s.touch8_cases a with h | h <;> rw [h]; rfl
@[simp] theorem State.touch8_ppu (s : State) (a : Word) : (s.touch8 a).ppu = s.ppu := by
  rcases s.touch8_cases a with h | h <;> rw [h]; rfl
@[simp] theorem State.touch8_apu (s : State) (a : Word) : (s.touch8 a).apu = s.apu := by
  rcases s.touch8_cases a with h | h <;> rw [h]; rfl
@[simp] theorem State.touch8_par (s : State) (a : Word) : (s.touch8 a).par = s.par := by
  rcases s.touch8_cases a with h | h <;> rw [h]; rfl

@[simp] theorem State.window_withRegs (s : State) (r : Regs) (a : Word) : (s.withRegs r).window a = s.window a := rfl

/-- Two states that agree on what the decoder looks at read alike. -/
theorem State.read8_congr {s t : State} (hb : t.bootMapped = s.bootMapped) (hi : t.bootImage = s.bootImage)
    (hc : ∀ a, t.cart.read a = s.cart.read a) (hv : t.vram = s.vram) (hw : t.wram = s.wram) (ho : t.oam = s.oam)
    (hp : t.ppu = s.ppu) (hh : t.hram = s.hram) (he : t.ie = s.ie) (hio : ∀ r, t.ioRead r = s.ioRead r) (b : Word) :
    t.read8 b = s.read8 b := by
  unfold State.read8 State.window
  rw [hb, hi, hv, hw, ho, hp, hh, he]
  simp only [hc, hio]

@[simp] theorem State.rtcAdvance_read8 (s : State) (b : Word) : s.rtcAdvance.read8 b = s.read8 b :=
  State.read8_congr (s := s) (t := s.rtcAdvance) rfl rfl (fun a => Cart.advanceTo_read s.cart _ a) rfl rfl rfl rfl rfl rfl
    (fun r => by cases r <;> rfl) b

/-- What a read returns does not depend on the effects of earlier reads. -/
@[simp] theorem State.touch8_read8 (s : State) (a b : Word) : (s.touch8 a).read8 b = s.read8 b := by
  rcases s.touch8_cases a with h | h <;> rw [h]
  exact State.rtcAdvance_read8 s b

/-- What a read returns does not depend on the registers. -/
@[simp] theorem State.withRegs_read8 (s : State) (x : Regs) (b : Word) : (s.withRegs x).read8 b = s.read8 b :=
  State.read8_congr (s := s) (t := s.withRegs x) rfl rfl (fun _ => rfl) rfl rfl rfl rfl rfl rfl (fun r => by cases r <;> rfl) b
@[simp] theorem State.setPc_read8 (s : State) (x : Word) (b : Word) : (s.setPc x).read8 b = s.read8 b :=
  State.read8_congr (s := s) (t := s.setPc x) rfl rfl (fun _ => rfl) rfl rfl rfl rfl rfl rfl (fun r => by cases r <;> rfl) b
@[simp] theorem State.setSp_read8 (s : State) (x : Word) (b : Word) : (s.setSp x).read8 b = s.read8 b :=
  State.read8_congr (s := s) (t := s.setSp x) rfl rfl (fun _ => rfl) rfl rfl rfl rfl rfl rfl (fun r => by cases r <;> rfl) b
@[simp] theorem State.setA_read8 (s : State) (x : Byte) (b : Word) : (s.setA x).read8 b = s.read8 b :=
  State.read8_congr (s := s) (t := s.setA x) rfl rfl (fun _ => rfl) rfl rfl rfl rfl rfl rfl (fun r => by cases r <;> rfl) b
@[simp] theorem State.setFlags_read8 (s : State) (x : Flags) (b : Word) : (s.setFlags x).read8 b = s.read8 b :=
  State.read8_congr (s := s) (t := s.setFlags x) rfl rfl (fun _ => rfl) rfl rfl rfl rfl rfl rfl (fun r => by cases r <;> rfl) b
@[simp] theorem State.setHl_read8 (s : State) (x : Word) (b : Word) : (s.setHl x).read8 b = s.read8 b :=
  State.read8_congr (s := s) (t := s.setHl x) rfl rfl (fun _ => rfl) rfl rfl rfl rfl rfl rfl (fun r => by cases r <;> rfl) b
@[simp] theorem State.withCost_read8 (s : State) (x : Nat) (b : Word) : (s.withCost x).read8 b = s.read8 b :=
  State.read8_congr (s := s) (t := s.withCost x) rfl rfl (fun _ => rfl) rfl rfl rfl rfl rfl rfl (fun r => by cases r <;> rfl) b
@[simp] theorem State.setReg8_read8 (s : State) (x : Reg8) (v : Byte) (b : Word) : (s.setReg8 x v).read8 b = s.read8 b :=
  State.read8_congr (s := s) (t := s.setReg8 x v) rfl rfl (fun _ => rfl) rfl rfl rfl rfl rfl rfl (fun r => by cases r <;> rfl) b

/-! ### Writes -/

@[simp] theorem State.rtcWrite_regs (s : State) (r : RtcField) (v : Byte) : (s.rtcWrite r v).regs = s.regs := by
  unfold State.rtcWrite; dsimp only; split <;> rfl
@[simp] theorem State.rtcWrite_ime (s : State) (r : RtcField) (v : Byte) : (s.rtcWrite r v).ime = s.ime := by
  unfold State.rtcWrite; dsimp only; split <;> rfl
@[simp] theorem State.rtcWrite_halted (s : State) (r : RtcField) (v : Byte) : (s.rtcWrite r v).halted = s.halted := by
  unfold State.rtcWrite; dsimp only; split <;> rfl
@[simp] theorem State.rtcWrite_haltBug (s : State) (r : RtcField) (v : Byte) : (s.rtcWrite r v).haltBug = s.haltBug := by
  unfold State.rtcWrite; dsimp only; split <;> rfl
@[simp] theorem State.rtcWrite_eiPending (s : State) (r : RtcField) (v : Byte) : (s.rtcWrite r v).eiPending = s.eiPending := by
  unfold State.rtcWrite; dsimp only; split <;> rfl
@[simp] theorem State.rtcWrite_fault (s : State) (r : RtcField) (v : Byte) : (s.rtcWrite r v).fault = s.fault := by
  unfold State.rtcWrite; dsimp only; split <;> rfl
@[simp] theorem State.rtcWrite_cost (s : State) (r : RtcField) (v : Byte) : (s.rtcWrite r v).cost = s.cost := by
  unfold State.rtcWrite; dsimp only; split <;> rfl
@[simp] theorem State.rtcWrite_bootImage (s : State) (r : RtcField) (v : Byte) : (s.rtcWrite r v).bootImage = s.bootImage := by
  unfold State.rtcWrite; dsimp only; split <;> rfl
@[simp] theorem State.rtcWrite_par (s : State) (r : RtcField) (v : Byte) : (s.rtcWrite r v).par = s.par := by
  unfold State.rtcWrite; dsimp only; split <;> rfl

@[simp] theorem State.latchWrite_regs (s : State) (v : Byte) : (s.latchWrite v).regs = s.regs := by
  unfold State.latchWrite; dsimp only; split <;> rfl
@[simp] theorem State.latchWrite_ime (s : State) (v : Byte) : (s.latchWrite v).ime = s.ime := by
  unfold State.latchWrite; dsimp only; split <;> rfl
@[simp] theorem State.latchWrite_halted (s : State) (v : Byte) : (s.latchWrite v).halted = s.halted := by
  unfold State.latchWrite; dsimp only; split <;> rfl
@[simp] theorem State.latchWrite_haltBug (s : State) (v : Byte) : (s.latchWrite v).haltBug = s.haltBug := by
  unfold State.latchWrite; dsimp only; split <;> rfl
@[simp] theorem State.latchWrite_eiPending (s : State) (v : Byte) : (s.latchWrite v).eiPending = s.eiPending := by
  unfold State.latchWrite; dsimp only; split <;> rfl
@[simp] theorem State.latchWrite_fault (s : State) (v : Byte) : (s.latchWrite v).fault = s.fault := by
  unfold State.latchWrite; dsimp only; split <;> rfl
@[simp] theorem State.latchWrite_cost (s : State) (v : Byte) : (s.latchWrite v).cost = s.cost := by
  unfold State.latchWrite; dsimp only; split <;> rfl
@[simp] theorem State.latchWrite_bootImage (s : State) (v : Byte) : (s.latchWrite v).bootImage = s.bootImage := by
  unfold State.latchWrite; dsimp only; split <;> rfl
@[simp] theorem State.latchWrite_par (s : State) (v : Byte) : (s.latchWrite v).par = s.par := by
  unfold State.latchWrite; dsimp only; split <;> rfl

@[simp] theorem State.ramWindowWrite_regs (s : State) (a : Word) (v : Byte) : (s.ramWindowWrite a v).regs = s.regs := by
  unfold State.ramWindowWrite; split <;> first | rfl | simp
@[simp] theorem State.ramWindowWrite_ime (s : State) (a : Word) (v : Byte) : (s.ramWindowWrite a v).ime = s.ime := by
  unfold State.ramWindowWrite; split <;> first | rfl | simp
@[simp] theorem State.ramWindowWrite_halted (s : State) (a : Word) (v : Byte) : (s.ramWindowWrite a v).halted = s.halted := by
  unfold State.ramWindowWrite; split <;> first | rfl | simp
@[simp] theorem State.ramWindowWrite_haltBug (s : State) (a : Word) (v : Byte) : (s.ramWindowWrite a v).haltBug = s.haltBug := by
  unfold State.ramWindowWrite; split <;> first | rfl | simp
@[simp] theorem State.ramWindowWrite_eiPending (s : State) (a : Word) (v : Byte) : (s.ramWindowWrite a v).eiPending = s.eiPending := by
  unfold State.ramWindowWrite; split <;> first | rfl | simp
@[simp] theorem State.ramWindowWrite_fault (s : State) (a : Word) (v : Byte) : (s.ramWindowWrite a v).fault = s.fault := by
  unfold State.ramWindowWrite; split <;> first | rfl | simp
@[simp] theorem State.ramWindowWrite_cost (s : State) (a : Word) (v : Byte) : (s.ramWindowWrite a v).cost = s.cost := by
  unfold State.ramWindowWrite; split <;> first | rfl | simp
@[simp] theorem State.ramWindowWrite_bootImage (s : State) (a : Word) (v : Byte) : (s.ramWindowWrite a v).bootImage = s.bootImage := by
  unfold State.ramWindowWrite; split <;> first | rfl | simp
@[simp] theorem State.ramWindowWrite_par (s : State) (a : Word) (v : Byte) : (s.ramWindowWrite a v).par = s.par := by
  unfold State.ramWindowWrite; split <;> first | rfl | simp

@[simp] theorem State.cartWrite_regs (s : State) (a : Word) (v : Byte) : (s.cartWrite a v).regs = s.regs := by
  unfold State.cartWrite; repeat (split <;> try first | rfl | simp)
@[simp] theorem State.cartWrite_ime (s : State) (a : Word) (v : Byte) : (s.cartWrite a v).ime = s.ime := by
  unfold State.cartWrite; repeat (split <;> try first | rfl | simp)
@[simp] theorem State.cartWrite_halted (s : State) (a : Word) (v : Byte) : (s.cartWrite a v).halted = s.halted := by
  unfold State.cartWrite; repeat (split <;> try first | rfl | simp)
@[simp] theorem State.cartWrite_haltBug (s : State) (a : Word) (v : Byte) : (s.cartWrite a v).haltBug = s.haltBug := by
  unfold State.cartWrite; repeat (split <;> try first | rfl | simp)
@[simp] theorem State.cartWrite_eiPending (s : State) (a : Word) (v : Byte) : (s.cartWrite a v).eiPending = s.eiPending := by
  unfold State.cartWrite; repeat (split <;> try first | rfl | simp)
@[simp] theorem State.cartWrite_fault (s : State) (a : Word) (v : Byte) : (s.cartWrite a v).fault = s.fault := by
  unfold State.cartWrite; repeat (split <;> try first | rfl | simp)
@[simp] theorem State.cartWrite_cost (s : State) (a : Word) (v : Byte) : (s.cartWrite a v).cost = s.cost := by
  unfold State.cartWrite; repeat (split <;> try first | rfl | simp)
@[simp] theorem State.cartWrite_bootImage (s : State) (a : Word) (v : Byte) : (s.cartWrite a v).bootImage = s.bootImage := by
  unfold State.cartWrite; repeat (split <;> try first | rfl | simp)
@[simp] theorem State.cartWrite_par (s : State) (a : Word) (v : Byte) : (s.cartWrite a v).par = s.par := by
  unfold State.cartWrite; repeat (split <;> try first | rfl | simp)

@[simp] theorem State.evalStat_regs (s : State) : (s.evalStat).regs = s.regs := by
  unfold State.evalStat; dsimp only; repeat (split <;> try rfl)
@[simp] theorem State.evalStat_ime (s : State) : (s.evalStat).ime = s.ime := by
  unfold State.evalStat; dsimp only; repeat (split <;> try rfl)
@[simp] theorem State.evalStat_halted (s : State) : (s.evalStat).halted = s.halted := by
  unfold State.evalStat; dsimp only; repeat (split <;> try rfl)
@[simp] theorem State.evalStat_haltBug (s : State) : (s.evalStat).haltBug = s.haltBug := by
  unfold State.evalStat; dsimp only; repeat (split <;> try rfl)
@[simp] theorem State.evalStat_eiPending (s : State) : (s.evalStat).eiPending = s.eiPending := by
  unfold State.evalStat; dsimp only; repeat (split <;> try rfl)
@[simp] theorem State.evalStat_fault (s : State) : (s.evalStat).fault = s.fault := by
  unfold State.evalStat; dsimp only; repeat (split <;> try rfl)
@[simp] theorem State.evalStat_cost (s : State) : (s.evalStat).cost = s.cost := by
  unfold State.evalStat; dsimp only; repeat (split <;> try rfl)
@[simp] theorem State.evalStat_bootImage (s : State) : (s.evalStat).bootImage = s.bootImage := by
  unfold State.evalStat; dsimp only; repeat (split <;> try rfl)
@[simp] theorem State.evalStat_par (s : State) : (s.evalStat).par = s.par := by
  unfold State.evalStat; dsimp only; repeat (split <;> try rfl)

@[simp] theorem State.writeLcdc_regs (s : State) (v : Byte) : (s.writeLcdc v).regs = s.regs := by
  unfold State.writeLcdc; dsimp only; repeat (split <;> try first | rfl | simp)
@[simp] theorem State.writeLcdc_ime (s : State) (v : Byte) : (s.writeLcdc v).ime = s.ime := by
  unfold State.writeLcdc; dsimp only; repeat (split <;> try first | rfl | simp)
@[simp] theorem State.writeLcdc_halted (s : State) (v : Byte) : (s.writeLcdc v).halted = s.halted := by
  unfold State.writeLcdc; dsimp only; repeat (split <;> try first | rfl | simp)
@[simp] theorem State.writeLcdc_haltBug (s : State) (v : Byte) : (s.writeLcdc v).haltBug = s.haltBug := by
  unfold State.writeLcdc; dsimp only; repeat (split <;> try first | rfl | simp)
@[simp] theorem State.writeLcdc_eiPending (s : State) (v : Byte) : (s.writeLcdc v).eiPending = s.eiPending := by
  unfold State.writeLcdc; dsimp only; repeat (split <;> try first | rfl | simp)
@[simp] theorem State.writeLcdc_fault (s : State) (v : Byte) : (s.writeLcdc v).fault = s.fault := by
  unfold State.writeLcdc; dsimp only; repeat (split <;> try first | rfl | simp)
@[simp] theorem State.writeLcdc_cost (s : State) (v : Byte) : (s.writeLcdc v).cost = s.cost := by
  unfold State.writeLcdc; dsimp only; repeat (split <;> try first | rfl | simp)
@[simp] theorem State.writeLcdc_bootImage (s : State) (v : Byte) : (s.writeLcdc v).bootImage = s.bootImage := by
  unfold State.writeLcdc; dsimp only; repeat (split <;> try first | rfl | simp)
@[simp] theorem State.writeLcdc_par (s : State) (v : Byte) : (s.writeLcdc v).par = s.par := by
  unfold State.writeLcdc; dsimp only; repeat (split <;> try first | rfl | simp)

@[simp] theorem State.writeStat_regs (s : State) (v : Byte) : (s.writeStat v).regs = s.regs := by
  unfold State.writeStat; simp
@[simp] theorem State.writeStat_ime (s : State) (v : Byte) : (s.writeStat v).ime = s.ime := by
  unfold State.writeStat; simp
@[simp] theorem State.writeStat_halted (s : State) (v : Byte) : (s.writeStat v).halted = s.halted := by
  unfold State.writeStat; simp
@[simp] theorem State.writeStat_haltBug (s : State) (v : Byte) : (s.writeStat v).haltBug = s.haltBug := by
  unfold State.writeStat; simp
@[simp] theorem State.writeStat_eiPending (s : State) (v : Byte) : (s.writeStat v).eiPending = s.eiPending := by
  unfold State.writeStat; simp
@[simp] theorem State.writeStat_fault (s : State) (v : Byte) : (s.writeStat v).fault = s.fault := by
  unfold State.writeStat; simp
@[simp] theorem State.writeStat_cost (s : State) (v : Byte) : (s.writeStat v).cost = s.cost := by
  unfold State.writeStat; simp
@[simp] theorem State.writeStat_bootImage (s : State) (v : Byte) : (s.writeStat v).bootImage = s.bootImage := by
  unfold State.writeStat; simp
@[simp] theorem State.writeStat_par (s : State) (v : Byte) : (s.writeStat v).par = s.par := by
  unfold State.writeStat; simp

@[simp] theorem State.writeLyc_regs (s : State) (v : Byte) : (s.writeLyc v).regs = s.regs := by
  unfold State.writeLyc; simp
@[simp] theorem State.writeLyc_ime (s : State) (v : Byte) : (s.writeLyc v).ime = s.ime := by
  unfold State.writeLyc; simp
@[simp] theorem State.writeLyc_halted (s : State) (v : Byte) : (s.writeLyc v).halted = s.halted := by
  unfold State.writeLyc; simp
@[simp] theorem State.writeLyc_haltBug (s : State) (v : Byte) : (s.writeLyc v).haltBug = s.haltBug := by
  unfold State.writeLyc; simp
@[simp] theorem State.writeLyc_eiPending (s : State) (v : Byte) : (s.writeLyc v).eiPending = s.eiPending := by
  unfold State.writeLyc; simp
@[simp] theorem State.writeLyc_fault (s : State) (v : Byte) : (s.writeLyc v).fault = s.fault := by
  unfold State.writeLyc; simp
@[simp] theorem State.writeLyc_cost (s : State) (v : Byte) : (s.writeLyc v).cost = s.cost := by
  unfold State.writeLyc; simp
@[simp] theorem State.writeLyc_bootImage (s : State) (v : Byte) : (s.writeLyc v).bootImage = s.bootImage := by
  unfold State.writeLyc; simp
@[simp] theorem State.writeLyc_par (s : State) (v : Byte) : (s.writeLyc v).par = s.par := by
  unfold State.writeLyc; simp

theorem State.dmaWrite_eq (s : State) (v : Byte) :
    s.dmaWrite v = { s.dmaCopy v 0 dmaLen with dmaReg := v, dmaStall := dmaStallCycles } := rfl

theorem State.ioWrite_dma (s : State) (v : Byte) : s.ioWrite .dma v = s.dmaWrite v := rfl

@[simp] theorem State.dmaCopy_regs (v : Byte) : ∀ (k i : Nat) (s : State), (s.dmaCopy v i k).regs = s.regs
  | 0, _, _ => rfl
  | k + 1, i, s => by
    unfold State.dmaCopy
    rw [State.dmaCopy_regs v k]
    simp
@[simp] theorem State.dmaWrite_regs (s : State) (v : Byte) : (s.dmaWrite v).regs = s.regs := by
  rw [State.dmaWrite_eq]; generalize dmaLen = k; exact State.dmaCopy_regs v k 0 s
@[simp] theorem State.ioWrite_regs (s : State) (r : IoReg) (v : Byte) : (s.ioWrite r v).regs = s.regs := by
  cases r with
  | dma => rw [State.ioWrite_dma]; exact State.dmaWrite_regs s v
  | lcdc => exact State.writeLcdc_regs s v
  | stat => exact State.writeStat_regs s v
  | lyc => exact State.writeLyc_regs s v
  | boot => unfold State.ioWrite; dsimp only; split <;> rfl
  | _ => rfl
@[simp] theorem State.write8_regs (s : State) (a : Word) (v : Byte) : (s.write8 a v).regs = s.regs := by
  unfold State.write8
  split <;> first | (simp; done) | (split <;> simp)

@[simp] theorem State.dmaCopy_ime (v : Byte) : ∀ (k i : Nat) (s : State), (s.dmaCopy v i k).ime = s.ime
  | 0, _, _ => rfl
  | k + 1, i, s => by
    unfold State.dmaCopy
    rw [State.dmaCopy_ime v k]
    simp
@[simp] theorem State.dmaWrite_ime (s : State) (v : Byte) : (s.dmaWrite v).ime = s.ime := by
  rw [State.dmaWrite_eq]; generalize dmaLen = k; exact State.dmaCopy_ime v k 0 s
@[simp] theorem State.ioWrite_ime (s : State) (r : IoReg) (v : Byte) : (s.ioWrite r v).ime = s.ime := by
  cases r with
  | dma => rw [State.ioWrite_dma]; exact State.dmaWrite_ime s v
  | lcdc => exact State.writeLcdc_ime s v
  | stat => exact State.writeStat_ime s v
  | lyc => exact State.writeLyc_ime s v
  | boot => unfold State.ioWrite; dsimp only; split <;> rfl
  | _ => rfl
@[simp] theorem State.write8_ime (s : State) (a : Word) (v : Byte) : (s.write8 a v).ime = s.ime := by
  unfold State.write8
  split <;> first | (simp; done) | (split <;> simp)

@[simp] theorem State.dmaCopy_halted (v : Byte) : ∀ (k i : Nat) (s : State), (s.dmaCopy v i k).halted = s.halted
  | 0, _, _ => rfl
  | k + 1, i, s => by
    unfold State.dmaCopy
    rw [State.dmaCopy_halted v k]
    simp
@[simp] theorem State.dmaWrite_halted (s : State) (v : Byte) : (s.dmaWrite v).halted = s.halted := by
  rw [State.dmaWrite_eq]; generalize dmaLen = k; exact State.dmaCopy_halted v k 0 s
@[simp] theorem State.ioWrite_halted (s : State) (r : IoReg) (v : Byte) : (s.ioWrite r v).halted = s.halted := by
  cases r with
  | dma => rw [State.ioWrite_dma]; exact State.dmaWrite_halted s v
  | lcdc => exact State.writeLcdc_halted s v
  | stat => exact State.writeStat_halted s v
  | lyc => exact State.writeLyc_halted s v
  | boot => unfold State.ioWrite; dsimp only; split <;> rfl
  | _ => rfl
@[simp] theorem State.write8_halted (s : State) (a : Word) (v : Byte) : (s.write8 a v).halted = s.halted := by
  unfold State.write8
  split <;> first | (simp; done) | (split <;> simp)

@[simp] theorem State.dmaCopy_haltBug (v : Byte) : ∀ (k i : Nat) (s : State), (s.dmaCopy v i k).haltBug = s.haltBug
  | 0, _, _ => rfl
  | k + 1, i, s => by
    unfold State.dmaCopy
    rw [State.dmaCopy_haltBug v k]
    simp
@[simp] theorem State.dmaWrite_haltBug (s : State) (v : Byte) : (s.dmaWrite v).haltBug = s.haltBug := by
  rw [State.dmaWrite_eq]; generalize dmaLen = k; exact State.dmaCopy_haltBug v k 0 s
@[simp] theorem State.ioWrite_haltBug (s : State) (r : IoReg) (v : Byte) : (s.ioWrite r v).haltBug = s.haltBug := by
  cases r with
  | dma => rw [State.ioWrite_dma]; exact State.dmaWrite_haltBug s v
  | lcdc => exact State.writeLcdc_haltBug s v
  | stat => exact State.writeStat_haltBug s v
  | lyc => exact State.writeLyc_haltBug s v
  | boot => unfold State.ioWrite; dsimp only; split <;> rfl
  | _ => rfl
@[simp] theorem State.write8_haltBug (s : State) (a : Word) (v : Byte) : (s.write8 a v).haltBug = s.haltBug := by
  unfold State.write8
  split <;> first | (simp; done) | (split <;> simp)

@[simp] theorem State.dmaCopy_eiPending (v : Byte) : ∀ (k i : Nat) (s : State), (s.dmaCopy v i k).eiPending = s.eiPending
  | 0, _, _ => rfl
  | k + 1, i, s => by
    unfold State.dmaCopy
    rw [State.dmaCopy_eiPending v k]
    simp
@[simp] theorem State.dmaWrite_eiPending (s : State) (v : Byte) : (s.dmaWrite v).eiPending = s.eiPending := by
  rw [State.dmaWrite_eq]; generalize dmaLen = k; exact State.dmaCopy_eiPending v k 0 s
@[simp] theorem State.ioWrite_eiPending (s : State) (r : IoReg) (v : Byte) : (s.ioWrite r v).eiPending = s.eiPending := by
  cases r with
  | dma => rw [State.ioWrite_dma]; exact State.dmaWrite_eiPending s v
  | lcdc => exact State.writeLcdc_eiPending s v
  | stat => exact State.writeStat_eiPending s v
  | lyc => exact State.writeLyc_eiPending s v
  | boot => unfold State.ioWrite; dsimp only; split <;> rfl
  | _ => rfl
@[simp] theorem State.write8_eiPending (s : State) (a : Word) (v : Byte) : (s.write8 a v).eiPending = s.eiPending := by
  unfold State.write8
  split <;> first | (simp; done) | (split <;> simp)

@[simp] theorem State.dmaCopy_fault (v : Byte) : ∀ (k i : Nat) (s : State), (s.dmaCopy v i k).fault = s.fault
  | 0, _, _ => rfl
  | k + 1, i, s => by
    unfold State.dmaCopy
    rw [State.dmaCopy_fault v k]
    simp
@[simp] theorem State.dmaWrite_fault (s : State) (v : Byte) : (s.dmaWrite v).fault = s.fault := by
  rw [State.dmaWrite_eq]; generalize dmaLen = k; exact State.dmaCopy_fault v k 0 s
@[simp] theorem State.ioWrite_fault (s : State) (r : IoReg) (v : Byte) : (s.ioWrite r v).fault = s.fault := by
  cases r with
  | dma => rw [State.ioWrite_dma]; exact State.dmaWrite_fault s v
  | lcdc => exact State.writeLcdc_fault s v
  | stat => exact State.writeStat_fault s v
  | lyc => exact State.writeLyc_fault s v
  | boot => unfold State.ioWrite; dsimp only; split <;> rfl
  | _ => rfl
@[simp] theorem State.write8_fault (s : State) (a : Word) (v : Byte) : (s.write8 a v).fault = s.fault := by
  unfold State.write8
  split <;> first | (simp; done) | (split <;> simp)

@[simp] theorem State.dmaCopy_cost (v : Byte) : ∀ (k i : Nat) (s : State), (s.dmaCopy v i k).cost = s.cost
  | 0, _, _ => rfl
  | k + 1, i, s => by
    unfold State.dmaCopy
    rw [State.dmaCopy_cost v k]
    simp
@[simp] theorem State.dmaWrite_cost (s : State) (v : Byte) : (s.dmaWrite v).cost = s.cost := by
  rw [State.dmaWrite_eq]; generalize dmaLen = k; exact State.dmaCopy_cost v k 0 s
@[simp] theorem State.ioWrite_cost (s : State) (r : IoReg) (v : Byte) : (s.ioWrite r v).cost = s.cost := by
  cases r with
  | dma => rw [State.ioWrite_dma]; exact State.dmaWrite_cost s v
  | lcdc => exact State.writeLcdc_cost s v
  | stat => exact State.writeStat_cost s v
  | lyc => exact State.writeLyc_cost s v
  | boot => unfold State.ioWrite; dsimp only; split <;> rfl
  | _ => rfl
@[simp] theorem State.write8_cost (s : State) (a : Word) (v : Byte) : (s.write8 a v).cost = s.cost := by
  unfold State.write8
  split <;> first | (simp; done) | (split <;> simp)

@[simp] theorem State.dmaCopy_bootImage (v : Byte) : ∀ (k i : Nat) (s : State), (s.dmaCopy v i k).bootImage = s.bootImage
  | 0, _, _ => rfl
  | k + 1, i, s => by
    unfold State.dmaCopy
    rw [State.dmaCopy_bootImage v k]
    simp
@[simp] theorem State.dmaWrite_bootImage (s : State) (v : Byte) : (s.dmaWrite v).bootImage = s.bootImage := by
  rw [State.dmaWrite_eq]; generalize dmaLen = k; exact State.dmaCopy_bootImage v k 0 s
@[simp] theorem State.ioWrite_bootImage (s : State) (r : IoReg) (v : Byte) : (s.ioWrite r v).bootImage = s.bootImage := by
  cases r with
  | dma => rw [State.ioWrite_dma]; exact State.dmaWrite_bootImage s v
  | lcdc => exact State.writeLcdc_bootImage s v
  | stat => exact State.writeStat_bootImage s v
  | lyc => exact State.writeLyc_bootImage s v
  | boot => unfold State.ioWrite; dsimp only; split <;> rfl
  | _ => rfl
@[simp] theorem State.write8_bootImage (s : State) (a : Word) (v : Byte) : (s.write8 a v).bootImage = s.bootImage := by
  unfold State.write8
  split <;> first | (simp; done) | (split <;> simp)

@[simp] theorem State.dmaCopy_par (v : Byte) : ∀ (k i : Nat) (s : State), (s.dmaCopy v i k).par = s.par
  | 0, _, _ => rfl
  | k + 1, i, s => by
    unfold State.dmaCopy
    rw [State.dmaCopy_par v k]
    simp
@[simp] theorem State.dmaWrite_par (s : State) (v : Byte) : (s.dmaWrite v).par = s.par := by
  rw [State.dmaWrite_eq]; generalize dmaLen = k; exact State.dmaCopy_par v k 0 s
@[simp] theorem State.ioWrite_par (s : State) (r : IoReg) (v : Byte) : (s.ioWrite r v).par = s.par := by
  cases r with
  | dma => rw [State.ioWrite_dma]; exact State.dmaWrite_par s v
  | lcdc => exact State.writeLcdc_par s v
  | stat => exact State.writeStat_par s v
  | lyc => exact State.writeLyc_par s v
  | boot => unfold State.ioWrite; dsimp only; split <;> rfl
  | _ => rfl
@[simp] theorem State.write8_par (s : State) (a : Word) (v : Byte) : (s.write8 a v).par = s.par := by
  unfold State.write8
  split <;> first | (simp; done) | (split <;> simp)

/-! ### Memory accesses do not look at the registers -/

@[simp] theorem State.withRegs_rtcAdvance (s : State) (r : Regs) : (s.withRegs r).rtcAdvance = s.rtcAdvance.withRegs r := rfl

theorem State.withRegs_touch8 (s : State) (r : Regs) (a : Word) : (s.withRegs r).touch8 a = (s.touch8 a).withRegs r := by
  unfold State.touch8 State.cartTouch
  rw [State.window_withRegs]
  cases s.window a with
  | cartRam =>
    show (match s.cart.ramTarget a with | .clock _ => (s.withRegs r).rtcAdvance | _ => s.withRegs r) = _
    cases s.cart.ramTarget a <;> rfl
  | _ => rfl

theorem State.withRegs_cartWrite (s : State) (r : Regs) (a : Word) (v : Byte) :
    (s.withRegs r).cartWrite a v = (s.cartWrite a v).withRegs r := by
  unfold State.cartWrite
  show (match s.cart.kind with | .romOnly => s.withRegs r | .mbc3Rtc => _) = _
  cases s.cart.kind with
  | romOnly => rfl
  | mbc3Rtc =>
    dsimp only
    split
    · rfl
    split
    · rfl
    split
    · rfl
    split
    · show State.latchWrite (s.withRegs r) v = _
      unfold State.latchWrite
      by_cases h : s.cart.latchPrev = 0x00 ∧ v = 0x01
      · have h' : (s.withRegs r).cart.latchPrev = 0x00 ∧ v = 0x01 := h
        simp only [if_pos h, if_pos h']; rfl
      · have h' : ¬ ((s.withRegs r).cart.latchPrev = 0x00 ∧ v = 0x01) := h
        simp only [if_neg h, if_neg h']; rfl
    · unfold State.ramWindowWrite
      show (match s.cart.ramTarget a with | .ram _ => _ | .clock _ => _ | .nothing => _) = _
      cases s.cart.ramTarget a with
      | ram _ => rfl
      | clock f =>
        show State.rtcWrite (s.withRegs r) f v = (State.rtcWrite s f v).withRegs r
        unfold State.rtcWrite
        dsimp only
        rw [State.withRegs_rtcAdvance]
        by_cases h : (s.rtcAdvance.cart.rtc.halt && !(s.rtcAdvance.cart.rtc.set f v).halt) = true
        · have h' : ((s.rtcAdvance.withRegs r).cart.rtc.halt && !((s.rtcAdvance.withRegs r).cart.rtc.set f v).halt) = true := h
          rw [if_pos h, if_pos h']; rfl
        · have h' : ¬ ((s.rtcAdvance.withRegs r).cart.rtc.halt && !((s.rtcAdvance.withRegs r).cart.rtc.set f v).halt) = true := h
          rw [if_neg h, if_neg h']; rfl
      | nothing => rfl

theorem State.withRegs_evalStat (s : State) (r : Regs) : (s.withRegs r).evalStat = s.evalStat.withRegs r := by
  unfold State.evalStat
  show (if s.ppu.on = true then _ else _) = _
  split
  · show (let t := if (s.ppu.statLine && !s.ppu.statLevel) = true then (s.withRegs r).requestInterrupt .stat else s.withRegs r
      { t with ppu := { t.ppu with statLevel := s.ppu.statLine } }) = _
    dsimp only
    split <;> rfl
  · rfl

theorem State.withRegs_writeLcdc (s : State) (r : Regs) (v : Byte) :
    (s.withRegs r).writeLcdc v = (s.writeLcdc v).withRegs r := by
  unfold State.writeLcdc
  dsimp only
  by_cases h1 : (s.ppu.on && !Ppu.on { s.ppu with lcdc := v }) = true
  · rw [if_pos h1, if_pos (show ((s.withRegs r).ppu.on && !Ppu.on { (s.withRegs r).ppu with lcdc := v }) = true from h1)]
    rfl
  · rw [if_neg h1, if_neg (show ¬ ((s.withRegs r).ppu.on && !Ppu.on { (s.withRegs r).ppu with lcdc := v }) = true from h1)]
    by_cases h2 : (!s.ppu.on && Ppu.on { s.ppu with lcdc := v }) = true
    · rw [if_pos h2, if_pos (show (!(s.withRegs r).ppu.on && Ppu.on { (s.withRegs r).ppu with lcdc := v }) = true from h2)]
      exact State.withRegs_evalStat { s with ppu := Ppu.switchOn { s.ppu with lcdc := v } } r
    · rw [if_neg h2, if_neg (show ¬ (!(s.withRegs r).ppu.on && Ppu.on { (s.withRegs r).ppu with lcdc := v }) = true from h2)]
      rfl

theorem State.withRegs_dmaCopy (r : Regs) (v : Byte) : ∀ (k i : Nat) (s : State),
    (s.withRegs r).dmaCopy v i k = (s.dmaCopy v i k).withRegs r
  | 0, _, _ => rfl
  | k + 1, i, s => by
    unfold State.dmaCopy
    rw [State.withRegs_touch8, State.withRegs_read8]
    exact State.withRegs_dmaCopy r v k (i + 1)
      { s.touch8 (dmaSource v i) with oam := (s.touch8 (dmaSource v i)).oam.write i (s.read8 (dmaSource v i)) }

theorem State.withRegs_dmaWrite (s : State) (r : Regs) (v : Byte) :
    (s.withRegs r).dmaWrite v = (s.dmaWrite v).withRegs r := by
  rw [State.dmaWrite_eq, State.dmaWrite_eq, State.withRegs_dmaCopy]
  generalize s.dmaCopy v 0 dmaLen = t
  rfl

theorem State.withRegs_ioWrite (s : State) (r : Regs) (q : IoReg) (v : Byte) :
    (s.withRegs r).ioWrite q v = (s.ioWrite q v).withRegs r := by
  cases q with
  | dma => rw [State.ioWrite_dma, State.ioWrite_dma]; exact State.withRegs_dmaWrite s r v
  | lcdc => exact State.withRegs_writeLcdc s r v
  | stat => exact State.withRegs_evalStat { s with ppu := { s.ppu with statEn := v.extractLsb' 3 4 } } r
  | lyc => exact State.withRegs_evalStat { s with ppu := { s.ppu with lyc := v } } r
  | boot => unfold State.ioWrite; dsimp only; split <;> rfl
  | _ => rfl

/-- A store does not look at the registers. -/
theorem State.withRegs_write8 (s : State) (r : Regs) (a : Word) (v : Byte) :
    (s.withRegs r).write8 a v = (s.write8 a v).withRegs r := by
  unfold State.write8
  rw [State.window_withRegs]
  cases s.window a with
  | boot => exact State.withRegs_cartWrite s r a v
  | cartRom => exact State.withRegs_cartWrite s r a v
  | cartRam => exact State.withRegs_cartWrite s r a v
  | oam =>
    show (if s.ppu.oamLocked = true then _ else _) = _
    dsimp only
    split <;> rfl
  | io =>
    dsimp only
    cases ioRegAt a with
    | none => rfl
    | some q => exact State.withRegs_ioWrite s r q v
  | _ => rfl

/-- `Push16(v)` is two stores, the high byte first, and `SP` two lower. -/
theorem State.push16_eq (s : State) (v : Word) :
    s.push16 v = ((s.write8 (s.regs.sp - 1) (hiByte v)).write8 (s.regs.sp - 2) (loByte v)).setSp (s.regs.sp - 2) := by
  have h : ∀ (t : State) (w : Word), t.setSp w = t.withRegs { t.regs with sp := w } := fun _ _ => rfl
  unfold State.push16
  dsimp only
  rw [h s, State.withRegs_write8, h, State.withRegs_write8, State.withRegs_write8, h]
  simp only [State.withRegs_regs, State.write8_regs]
  rfl

end Sys2Proof.Machine
end

