-- ==== Sys2Proof/Laws/Construct.lean ====
section
/-!
SUPPORT. The state after reset is the construction with every argument at its default.
-/
namespace Sys2Proof.Machine

theorem kindOfType_openBus : kindOfType openBus = .romOnly := by decide

theorem headerByte_nil (k : Nat) : headerByte [] k = openBus := rfl

theorem romBanksOf_empty : romBanksOf openBus 0 = 2 := by decide

theorem Cart.construct_default : Cart.construct .default = State.reset.cart := by
  unfold Cart.construct
  simp only [ConstructArgs.default, headerByte_nil, kindOfType_openBus, List.length_nil, romBanksOf_empty]
  rfl

/-- `State.reset` is `Construct()` with the default profile `overlay`, no images, no save data and the time origin 0. -/
theorem State.construct_default : State.construct .default = State.reset := by
  unfold State.construct
  rw [Cart.construct_default]
  rfl

end Sys2Proof.Machine
end

