-- ==== Sys2Proof/Laws/Exec.lean ====
section
/-!
SUPPORT. Everything an instruction can do to the state is a sequence of a few primitive changes: `ExecClosed` lists them, and
`exec_closed` says that a property kept by each of them is kept by every instruction. An invariant is proved from it with
one small fact per primitive, without unfolding `exec`.
-/
namespace Sys2Proof.Machine

/-- A property kept by register changes and reads. -/
structure ExecQuiet (P : State → Prop) : Prop where
  regs : ∀ {s : State} (r : Regs), P s → P (s.withRegs r)
  cost : ∀ {s : State} (n : Nat), P s → P (s.withCost n)
  touch : ∀ {s : State} (a : Word), P s → P (s.touch8 a)

/-- A property kept by the primitive changes of the instructions that act on registers and memory alone. -/
structure ExecPlain (P : State → Prop) : Prop extends ExecQuiet P where
  write : ∀ {s : State} (a : Word) (v : Byte), P s → P (s.write8 a v)

/-- A property kept by every primitive change an instruction makes, the wait state apart. -/
structure ExecClosed (P : State → Prop) : Prop extends ExecPlain P where
  ime : ∀ {s : State} (b : Bool), P s → P { s with ime := b }
  ei : ∀ {s : State} (b : Bool), P s → P { s with eiPending := b }
  bug : ∀ {s : State}, P s → P { s with haltBug := true }
  fault : ∀ {s : State} (x : Word × Byte), P s → P { s with fault := some x }

namespace ExecQuiet

variable {P : State → Prop} {s t : State}

theorem done (hP : ExecQuiet P) {n : Nat} (h : P s) (ht : Machine.done n s = .next t) : P t := by
  cases ht; exact hP.cost n h

theorem setPc (hP : ExecQuiet P) (v : Word) (h : P s) : P (s.setPc v) := hP.regs _ h
theorem setSp (hP : ExecQuiet P) (v : Word) (h : P s) : P (s.setSp v) := hP.regs _ h
theorem setFlags (hP : ExecQuiet P) (f : Flags) (h : P s) : P (s.setFlags f) := hP.regs _ h
theorem setReg8 (hP : ExecQuiet P) (x : Reg8) (v : Byte) (h : P s) : P (s.setReg8 x v) := hP.regs _ h
theorem setPair (hP : ExecQuiet P) (p : Pair) (v : Word) (h : P s) : P (s.setPair p v) := hP.regs _ h
theorem setHl (hP : ExecQuiet P) (v : Word) (h : P s) : P (s.setHl v) := hP.regs _ h

theorem touch16 (hP : ExecQuiet P) (a : Word) (h : P s) : P (s.touch16 a) := hP.touch _ (hP.touch _ h)

theorem popped (hP : ExecQuiet P) (h : P s) : P s.popped := hP.setSp _ (hP.touch16 _ h)

theorem loadReg (hP : ExecQuiet P) (dst src : Reg8) (h : P s) : P (s.loadReg dst src) := hP.setReg8 _ _ h
theorem loadImm (hP : ExecQuiet P) (dst : Reg8) (n : Byte) (h : P s) : P (s.loadImm dst n) := hP.setReg8 _ _ h
theorem loadMem (hP : ExecQuiet P) (dst : Reg8) (a : Word) (h : P s) : P (s.loadMem dst a) := hP.setReg8 _ _ (hP.touch _ h)
theorem loadHlSp (hP : ExecQuiet P) (e : Byte) (h : P s) : P (s.loadHlSp e) := hP.setFlags _ (hP.setHl _ h)
theorem popPair (hP : ExecQuiet P) (p : StackPair) (h : P s) : P (s.popPair p) := hP.regs _ (hP.popped h)
theorem alu (hP : ExecQuiet P) (op : AluOp) (v : Byte) (h : P s) : P (s.alu op v) := hP.regs _ h
theorem aluReg (hP : ExecQuiet P) (op : AluOp) (r : Reg8) (h : P s) : P (s.aluReg op r) := hP.alu _ _ h
theorem aluMem (hP : ExecQuiet P) (op : AluOp) (h : P s) : P (s.aluMem op) := hP.alu _ _ (hP.touch _ h)
theorem incReg (hP : ExecQuiet P) (r : Reg8) (h : P s) : P (s.incReg r) := hP.setFlags _ (hP.setReg8 _ _ h)
theorem decReg (hP : ExecQuiet P) (r : Reg8) (h : P s) : P (s.decReg r) := hP.setFlags _ (hP.setReg8 _ _ h)
theorem daa (hP : ExecQuiet P) (h : P s) : P s.daa := hP.regs _ h
theorem cpl (hP : ExecQuiet P) (h : P s) : P s.cpl := hP.regs _ h
theorem scf (hP : ExecQuiet P) (h : P s) : P s.scf := hP.setFlags _ h
theorem ccf (hP : ExecQuiet P) (h : P s) : P s.ccf := hP.setFlags _ h
theorem addHl (hP : ExecQuiet P) (p : Pair) (h : P s) : P (s.addHl p) := hP.setFlags _ (hP.setHl _ h)
theorem incPair (hP : ExecQuiet P) (p : Pair) (h : P s) : P (s.incPair p) := hP.setPair _ _ h
theorem decPair (hP : ExecQuiet P) (p : Pair) (h : P s) : P (s.decPair p) := hP.setPair _ _ h
theorem addSp (hP : ExecQuiet P) (e : Byte) (h : P s) : P (s.addSp e) := hP.setFlags _ (hP.setSp _ h)
theorem rotA (hP : ExecQuiet P) (op : RotOp) (h : P s) : P (s.rotA op) := hP.regs _ h
theorem rotReg (hP : ExecQuiet P) (op : RotOp) (r : Reg8) (h : P s) : P (s.rotReg op r) :=
  hP.setFlags _ (hP.setReg8 _ _ h)
theorem bitReg (hP : ExecQuiet P) (b : Fin 8) (r : Reg8) (h : P s) : P (s.bitReg b r) := hP.setFlags _ h
theorem bitMem (hP : ExecQuiet P) (b : Fin 8) (h : P s) : P (s.bitMem b) := hP.setFlags _ (hP.touch _ h)
theorem resReg (hP : ExecQuiet P) (b : Fin 8) (r : Reg8) (h : P s) : P (s.resReg b r) := hP.setReg8 _ _ h
theorem setReg (hP : ExecQuiet P) (b : Fin 8) (r : Reg8) (h : P s) : P (s.setReg b r) := hP.setReg8 _ _ h
theorem ite (c : Bool) {u v : State} (hu : P u) (hv : P v) : P (if c then u else v) := by
  cases c <;> assumption

theorem jumpRel (hP : ExecQuiet P) (e : Byte) (h : P s) : P (s.jumpRel e) := hP.setPc _ h
theorem jumpIf (hP : ExecQuiet P) (cc : Cond) (nn : Word) (h : P s) : P (s.jumpIf cc nn) := ExecQuiet.ite _ (hP.setPc _ h) h
theorem jumpRelIf (hP : ExecQuiet P) (cc : Cond) (e : Byte) (h : P s) : P (s.jumpRelIf cc e) := ExecQuiet.ite _ (hP.setPc _ h) h
theorem returnFrom (hP : ExecQuiet P) (h : P s) : P s.returnFrom := hP.setPc _ (hP.popped h)
theorem returnIf (hP : ExecQuiet P) (cc : Cond) (h : P s) : P (s.returnIf cc) := ExecQuiet.ite _ (hP.returnFrom h) h

end ExecQuiet

namespace ExecPlain

variable {P : State → Prop} {s t : State}

theorem write16 (hP : ExecPlain P) (a v : Word) (h : P s) : P (s.write16 a v) := hP.write _ _ (hP.write _ _ h)
theorem push16 (hP : ExecPlain P) (v : Word) (h : P s) : P (s.push16 v) :=
  hP.write _ _ (hP.setSp _ (hP.write _ _ (hP.setSp _ h)))

theorem storeByte (hP : ExecPlain P) (a : Word) (v : Byte) (h : P s) : P (s.storeByte a v) := hP.write _ _ h
theorem storeReg (hP : ExecPlain P) (a : Word) (r : Reg8) (h : P s) : P (s.storeReg a r) := hP.write _ _ h
theorem storeSp (hP : ExecPlain P) (nn : Word) (h : P s) : P (s.storeSp nn) := hP.write16 _ _ h
theorem pushPair (hP : ExecPlain P) (p : StackPair) (h : P s) : P (s.pushPair p) := hP.push16 _ h
theorem modifyHl (hP : ExecPlain P) (v : Byte) (f : Flags) (h : P s) : P (s.modifyHl v f) :=
  hP.setFlags _ (hP.write _ _ (hP.touch _ h))
theorem incMem (hP : ExecPlain P) (h : P s) : P s.incMem := hP.modifyHl _ _ h
theorem decMem (hP : ExecPlain P) (h : P s) : P s.decMem := hP.modifyHl _ _ h
theorem rotMem (hP : ExecPlain P) (op : RotOp) (h : P s) : P (s.rotMem op) := hP.modifyHl _ _ h
theorem resMem (hP : ExecPlain P) (b : Fin 8) (h : P s) : P (s.resMem b) := hP.write _ _ (hP.touch _ h)
theorem setMem (hP : ExecPlain P) (b : Fin 8) (h : P s) : P (s.setMem b) := hP.write _ _ (hP.touch _ h)

theorem call (hP : ExecPlain P) (nn : Word) (h : P s) : P (s.call nn) := hP.setPc _ (hP.push16 _ h)
theorem callIf (hP : ExecPlain P) (cc : Cond) (nn : Word) (h : P s) : P (s.callIf cc nn) := ExecQuiet.ite _ (hP.call _ h) h
theorem secondaryEntry (hP : ExecPlain P) (op2 : Byte) (h : P s) (ht : s.secondaryEntry op2 = .next t) : P t := by
  unfold State.secondaryEntry at ht
  dsimp only at ht
  split at ht
  · split at ht
    · exact hP.done (hP.rotReg _ _ h) ht
    · exact hP.done (hP.rotMem _ h) ht
  split at ht
  · split at ht
    · exact hP.done (hP.bitReg _ _ h) ht
    · exact hP.done (hP.bitMem _ h) ht
  split at ht
  · split at ht
    · exact hP.done (hP.resReg _ _ h) ht
    · exact hP.done (hP.resMem _ h) ht
  · split at ht
    · exact hP.done (hP.setReg _ _ h) ht
    · exact hP.done (hP.setMem _ h) ht

end ExecPlain

namespace ExecClosed

variable {P : State → Prop} {s t : State}

theorem returnFromInterrupt (hP : ExecClosed P) (h : P s) : P s.returnFromInterrupt := hP.ime true (hP.toExecPlain.returnFrom h)
theorem disableInterrupts (hP : ExecClosed P) (h : P s) : P s.disableInterrupts :=
  hP.ei (s := { s with ime := false }) false (hP.ime false h)
theorem enableInterrupts (hP : ExecClosed P) (h : P s) : P s.enableInterrupts := hP.ei true h
theorem raiseDecodeFault (hP : ExecClosed P) (op : Byte) (h : P s) (ht : stateAfter (s.raiseDecodeFault op) = some t) : P t := by
  cases ht; exact hP.cost faultCost (hP.fault (s.regs.pc, op) h)

end ExecClosed

/-- A property kept by register changes and reads is kept by every instruction that neither stores nor acts on the engine. -/
theorem exec_quiet {P : State → Prop} (hP : ExecQuiet P) {i : Instr} {s t : State} (h : P s)
    (hs : i.stores = false) (hi : i.onEngine = false) (ht : exec i s = .next t) : P t := by
  cases i with
  | nop => exact hP.done h ht
  | ld_BC_nn _ => exact hP.done (hP.setPair _ _ h) ht
  | ld_mBC_A => cases hs
  | inc_BC => exact hP.done (hP.incPair _ h) ht
  | inc_B => exact hP.done (hP.incReg _ h) ht
  | dec_B => exact hP.done (hP.decReg _ h) ht
  | ld_B_n _ => exact hP.done (hP.loadImm _ _ h) ht
  | rlca => exact hP.done (hP.rotA _ h) ht
  | ld_mnn_SP _ => cases hs
  | add_HL_BC => exact hP.done (hP.addHl _ h) ht
  | ld_A_mBC => exact hP.done (hP.loadMem _ _ h) ht
  | dec_BC => exact hP.done (hP.decPair _ h) ht
  | inc_C => exact hP.done (hP.incReg _ h) ht
  | dec_C => exact hP.done (hP.decReg _ h) ht
  | ld_C_n _ => exact hP.done (hP.loadImm _ _ h) ht
  | rrca => exact hP.done (hP.rotA _ h) ht
  | stop _ => cases hi
  | ld_DE_nn _ => exact hP.done (hP.setPair _ _ h) ht
  | ld_mDE_A => cases hs
  | inc_DE => exact hP.done (hP.incPair _ h) ht
  | inc_D => exact hP.done (hP.incReg _ h) ht
  | dec_D => exact hP.done (hP.decReg _ h) ht
  | ld_D_n _ => exact hP.done (hP.loadImm _ _ h) ht
  | rla => exact hP.done (hP.rotA _ h) ht
  | jr_e _ => exact hP.done (hP.jumpRel _ h) ht
  | add_HL_DE => exact hP.done (hP.addHl _ h) ht
  | ld_A_mDE => exact hP.done (hP.loadMem _ _ h) ht
  | dec_DE => exact hP.done (hP.decPair _ h) ht
  | inc_E => exact hP.done (hP.incReg _ h) ht
  | dec_E => exact hP.done (hP.decReg _ h) ht
  | ld_E_n _ => exact hP.done (hP.loadImm _ _ h) ht
  | rra => exact hP.done (hP.rotA _ h) ht
  | jr_NZ_e _ => exact hP.done (hP.jumpRelIf _ _ h) ht
  | ld_HL_nn _ => exact hP.done (hP.setPair _ _ h) ht
  | ld_mHLi_A => cases hs
  | inc_HL => exact hP.done (hP.incPair _ h) ht
  | inc_H => exact hP.done (hP.incReg _ h) ht
  | dec_H => exact hP.done (hP.decReg _ h) ht
  | ld_H_n _ => exact hP.done (hP.loadImm _ _ h) ht
  | daa => exact hP.done (hP.daa h) ht
  | jr_Z_e _ => exact hP.done (hP.jumpRelIf _ _ h) ht
  | add_HL_HL => exact hP.done (hP.addHl _ h) ht
  | ld_A_mHLi => exact hP.done (hP.setHl _ (hP.loadMem _ _ h)) ht
  | dec_HL => exact hP.done (hP.decPair _ h) ht
  | inc_L => exact hP.done (hP.incReg _ h) ht
  | dec_L => exact hP.done (hP.decReg _ h) ht
  | ld_L_n _ => exact hP.done (hP.loadImm _ _ h) ht
  | cpl => exact hP.done (hP.cpl h) ht
  | jr_NC_e _ => exact hP.done (hP.jumpRelIf _ _ h) ht
  | ld_SP_nn _ => exact hP.done (hP.setPair _ _ h) ht
  | ld_mHLd_A => cases hs
  | inc_SP => exact hP.done (hP.incPair _ h) ht
  | inc_mHL => cases hs
  | dec_mHL => cases hs
  | ld_mHL_n _ => cases hs
  | scf => exact hP.done (hP.scf h) ht
  | jr_C_e _ => exact hP.done (hP.jumpRelIf _ _ h) ht
  | add_HL_SP => exact hP.done (hP.addHl _ h) ht
  | ld_A_mHLd => exact hP.done (hP.setHl _ (hP.loadMem _ _ h)) ht
  | dec_SP => exact hP.done (hP.decPair _ h) ht
  | inc_A => exact hP.done (hP.incReg _ h) ht
  | dec_A => exact hP.done (hP.decReg _ h) ht
  | ld_A_n _ => exact hP.done (hP.loadImm _ _ h) ht
  | ccf => exact hP.done (hP.ccf h) ht
  | ld_B_B => exact hP.done (hP.loadReg _ _ h) ht
  | ld_B_C => exact hP.done (hP.loadReg _ _ h) ht
  | ld_B_D => exact hP.done (hP.loadReg _ _ h) ht
  | ld_B_E => exact hP.done (hP.loadReg _ _ h) ht
  | ld_B_H => exact hP.done (hP.loadReg _ _ h) ht
  | ld_B_L => exact hP.done (hP.loadReg _ _ h) ht
  | ld_B_mHL => exact hP.done (hP.loadMem _ _ h) ht
  | ld_B_A => exact hP.done (hP.loadReg _ _ h) ht
  | ld_C_B => exact hP.done (hP.loadReg _ _ h) ht
  | ld_C_C => exact hP.done (hP.loadReg _ _ h) ht
  | ld_C_D => exact hP.done (hP.loadReg _ _ h) ht
  | ld_C_E => exact hP.done (hP.loadReg _ _ h) ht
  | ld_C_H => exact hP.done (hP.loadReg _ _ h) ht
  | ld_C_L => exact hP.done (hP.loadReg _ _ h) ht
  | ld_C_mHL => exact hP.done (hP.loadMem _ _ h) ht
  | ld_C_A => exact hP.done (hP.loadReg _ _ h) ht
  | ld_D_B => exact hP.done (hP.loadReg _ _ h) ht
  | ld_D_C => exact hP.done (hP.loadReg _ _ h) ht
  | ld_D_D => exact hP.done (hP.loadReg _ _ h) ht
  | ld_D_E => exact hP.done (hP.loadReg _ _ h) ht
  | ld_D_H => exact hP.done (hP.loadReg _ _ h) ht
  | ld_D_L => exact hP.done (hP.loadReg _ _ h) ht
  | ld_D_mHL => exact hP.done (hP.loadMem _ _ h) ht
  | ld_D_A => exact hP.done (hP.loadReg _ _ h) ht
  | ld_E_B => exact hP.done (hP.loadReg _ _ h) ht
  | ld_E_C => exact hP.done (hP.loadReg _ _ h) ht
  | ld_E_D => exact hP.done (hP.loadReg _ _ h) ht
  | ld_E_E => exact hP.done (hP.loadReg _ _ h) ht
  | ld_E_H => exact hP.done (hP.loadReg _ _ h) ht
  | ld_E_L => exact hP.done (hP.loadReg _ _ h) ht
  | ld_E_mHL => exact hP.done (hP.loadMem _ _ h) ht
  | ld_E_A => exact hP.done (hP.loadReg _ _ h) ht
  | ld_H_B => exact hP.done (hP.loadReg _ _ h) ht
  | ld_H_C => exact hP.done (hP.loadReg _ _ h) ht
  | ld_H_D => exact hP.done (hP.loadReg _ _ h) ht
  | ld_H_E => exact hP.done (hP.loadReg _ _ h) ht
  | ld_H_H => exact hP.done (hP.loadReg _ _ h) ht
  | ld_H_L => exact hP.done (hP.loadReg _ _ h) ht
  | ld_H_mHL => exact hP.done (hP.loadMem _ _ h) ht
  | ld_H_A => exact hP.done (hP.loadReg _ _ h) ht
  | ld_L_B => exact hP.done (hP.loadReg _ _ h) ht
  | ld_L_C => exact hP.done (hP.loadReg _ _ h) ht
  | ld_L_D => exact hP.done (hP.loadReg _ _ h) ht
  | ld_L_E => exact hP.done (hP.loadReg _ _ h) ht
  | ld_L_H => exact hP.done (hP.loadReg _ _ h) ht
  | ld_L_L => exact hP.done (hP.loadReg _ _ h) ht
  | ld_L_mHL => exact hP.done (hP.loadMem _ _ h) ht
  | ld_L_A => exact hP.done (hP.loadReg _ _ h) ht
  | ld_mHL_B => cases hs
  | ld_mHL_C => cases hs
  | ld_mHL_D => cases hs
  | ld_mHL_E => cases hs
  | ld_mHL_H => cases hs
  | ld_mHL_L => cases hs
  | halt => cases hi
  | ld_mHL_A => cases hs
  | ld_A_B => exact hP.done (hP.loadReg _ _ h) ht
  | ld_A_C => exact hP.done (hP.loadReg _ _ h) ht
  | ld_A_D => exact hP.done (hP.loadReg _ _ h) ht
  | ld_A_E => exact hP.done (hP.loadReg _ _ h) ht
  | ld_A_H => exact hP.done (hP.loadReg _ _ h) ht
  | ld_A_L => exact hP.done (hP.loadReg _ _ h) ht
  | ld_A_mHL => exact hP.done (hP.loadMem _ _ h) ht
  | ld_A_A => exact hP.done (hP.loadReg _ _ h) ht
  | add_A_B => exact hP.done (hP.aluReg _ _ h) ht
  | add_A_C => exact hP.done (hP.aluReg _ _ h) ht
  | add_A_D => exact hP.done (hP.aluReg _ _ h) ht
  | add_A_E => exact hP.done (hP.aluReg _ _ h) ht
  | add_A_H => exact hP.done (hP.aluReg _ _ h) ht
  | add_A_L => exact hP.done (hP.aluReg _ _ h) ht
  | add_A_mHL => exact hP.done (hP.aluMem _ h) ht
  | add_A_A => exact hP.done (hP.aluReg _ _ h) ht
  | adc_A_B => exact hP.done (hP.aluReg _ _ h) ht
  | adc_A_C => exact hP.done (hP.aluReg _ _ h) ht
  | adc_A_D => exact hP.done (hP.aluReg _ _ h) ht
  | adc_A_E => exact hP.done (hP.aluReg _ _ h) ht
  | adc_A_H => exact hP.done (hP.aluReg _ _ h) ht
  | adc_A_L => exact hP.done (hP.aluReg _ _ h) ht
  | adc_A_mHL => exact hP.done (hP.aluMem _ h) ht
  | adc_A_A => exact hP.done (hP.aluReg _ _ h) ht
  | sub_B => exact hP.done (hP.aluReg _ _ h) ht
  | sub_C => exact hP.done (hP.aluReg _ _ h) ht
  | sub_D => exact hP.done (hP.aluReg _ _ h) ht
  | sub_E => exact hP.done (hP.aluReg _ _ h) ht
  | sub_H => exact hP.done (hP.aluReg _ _ h) ht
  | sub_L => exact hP.done (hP.aluReg _ _ h) ht
  | sub_mHL => exact hP.done (hP.aluMem _ h) ht
  | sub_A => exact hP.done (hP.aluReg _ _ h) ht
  | sbc_A_B => exact hP.done (hP.aluReg _ _ h) ht
  | sbc_A_C => exact hP.done (hP.aluReg _ _ h) ht
  | sbc_A_D => exact hP.done (hP.aluReg _ _ h) ht
  | sbc_A_E => exact hP.done (hP.aluReg _ _ h) ht
  | sbc_A_H => exact hP.done (hP.aluReg _ _ h) ht
  | sbc_A_L => exact hP.done (hP.aluReg _ _ h) ht
  | sbc_A_mHL => exact hP.done (hP.aluMem _ h) ht
  | sbc_A_A => exact hP.done (hP.aluReg _ _ h) ht
  | and_B => exact hP.done (hP.aluReg _ _ h) ht
  | and_C => exact hP.done (hP.aluReg _ _ h) ht
  | and_D => exact hP.done (hP.aluReg _ _ h) ht
  | and_E => exact hP.done (hP.aluReg _ _ h) ht
  | and_H => exact hP.done (hP.aluReg _ _ h) ht
  | and_L => exact hP.done (hP.aluReg _ _ h) ht
  | and_mHL => exact hP.done (hP.aluMem _ h) ht
  | and_A => exact hP.done (hP.aluReg _ _ h) ht
  | xor_B => exact hP.done (hP.aluReg _ _ h) ht
  | xor_C => exact hP.done (hP.aluReg _ _ h) ht
  | xor_D => exact hP.done (hP.aluReg _ _ h) ht
  | xor_E => exact hP.done (hP.aluReg _ _ h) ht
  | xor_H => exact hP.done (hP.aluReg _ _ h) ht
  | xor_L => exact hP.done (hP.aluReg _ _ h) ht
  | xor_mHL => exact hP.done (hP.aluMem _ h) ht
  | xor_A => exact hP.done (hP.aluReg _ _ h) ht
  | or_B => exact hP.done (hP.aluReg _ _ h) ht
  | or_C => exact hP.done (hP.aluReg _ _ h) ht
  | or_D => exact hP.done (hP.aluReg _ _ h) ht
  | or_E => exact hP.done (hP.aluReg _ _ h) ht
  | or_H => exact hP.done (hP.aluReg _ _ h) ht
  | or_L => exact hP.done (hP.aluReg _ _ h) ht
  | or_mHL => exact hP.done (hP.aluMem _ h) ht
  | or_A => exact hP.done (hP.aluReg _ _ h) ht
  | cp_B => exact hP.done (hP.aluReg _ _ h) ht
  | cp_C => exact hP.done (hP.aluReg _ _ h) ht
  | cp_D => exact hP.done (hP.aluReg _ _ h) ht
  | cp_E => exact hP.done (hP.aluReg _ _ h) ht
  | cp_H => exact hP.done (hP.aluReg _ _ h) ht
  | cp_L => exact hP.done (hP.aluReg _ _ h) ht
  | cp_mHL => exact hP.done (hP.aluMem _ h) ht
  | cp_A => exact hP.done (hP.aluReg _ _ h) ht
  | ret_NZ => exact hP.done (hP.returnIf _ h) ht
  | pop_BC => exact hP.done (hP.popPair _ h) ht
  | jp_NZ_nn _ => exact hP.done (hP.jumpIf _ _ h) ht
  | jp_nn _ => exact hP.done (hP.setPc _ h) ht
  | call_NZ_nn _ => cases hs
  | push_BC => cases hs
  | add_A_n _ => exact hP.done (hP.alu _ _ h) ht
  | rst_00 => cases hs
  | ret_Z => exact hP.done (hP.returnIf _ h) ht
  | ret => exact hP.done (hP.returnFrom h) ht
  | jp_Z_nn _ => exact hP.done (hP.jumpIf _ _ h) ht
  | escape_CB _ => cases hs
  | call_Z_nn _ => cases hs
  | call_nn _ => cases hs
  | adc_A_n _ => exact hP.done (hP.alu _ _ h) ht
  | rst_08 => cases hs
  | ret_NC => exact hP.done (hP.returnIf _ h) ht
  | pop_DE => exact hP.done (hP.popPair _ h) ht
  | jp_NC_nn _ => exact hP.done (hP.jumpIf _ _ h) ht
  | illegal_D3 => cases hi
  | call_NC_nn _ => cases hs
  | push_DE => cases hs
  | sub_n _ => exact hP.done (hP.alu _ _ h) ht
  | rst_10 => cases hs
  | ret_C => exact hP.done (hP.returnIf _ h) ht
  | reti => cases hi
  | jp_C_nn _ => exact hP.done (hP.jumpIf _ _ h) ht
  | illegal_DB => cases hi
  | call_C_nn _ => cases hs
  | illegal_DD => cases hi
  | sbc_A_n _ => exact hP.done (hP.alu _ _ h) ht
  | rst_18 => cases hs
  | ldh_mn_A _ => cases hs
  | pop_HL => exact hP.done (hP.popPair _ h) ht
  | ldh_mC_A => cases hs
  | illegal_E3 => cases hi
  | illegal_E4 => cases hi
  | push_HL => cases hs
  | and_n _ => exact hP.done (hP.alu _ _ h) ht
  | rst_20 => cases hs
  | add_SP_e _ => exact hP.done (hP.addSp _ h) ht
  | jp_HL => exact hP.done (hP.setPc _ h) ht
  | ld_mnn_A _ => cases hs
  | illegal_EB => cases hi
  | illegal_EC => cases hi
  | illegal_ED => cases hi
  | xor_n _ => exact hP.done (hP.alu _ _ h) ht
  | rst_28 => cases hs
  | ldh_A_mn _ => exact hP.done (hP.loadMem _ _ h) ht
  | pop_AF => exact hP.done (hP.popPair _ h) ht
  | ldh_A_mC => exact hP.done (hP.loadMem _ _ h) ht
  | di => cases hi
  | illegal_F4 => cases hi
  | push_AF => cases hs
  | or_n _ => exact hP.done (hP.alu _ _ h) ht
  | rst_30 => cases hs
  | ld_HL_SPe _ => exact hP.done (hP.loadHlSp _ h) ht
  | ld_SP_HL => exact hP.done (hP.setSp _ h) ht
  | ld_A_mnn _ => exact hP.done (hP.loadMem _ _ h) ht
  | ei => cases hi
  | illegal_FC => cases hi
  | illegal_FD => cases hi
  | cp_n _ => exact hP.done (hP.alu _ _ h) ht
  | rst_38 => cases hs
  | rlc_B => exact hP.done (hP.rotReg _ _ h) ht
  | rlc_C => exact hP.done (hP.rotReg _ _ h) ht
  | rlc_D => exact hP.done (hP.rotReg _ _ h) ht
  | rlc_E => exact hP.done (hP.rotReg _ _ h) ht
  | rlc_H => exact hP.done (hP.rotReg _ _ h) ht
  | rlc_L => exact hP.done (hP.rotReg _ _ h) ht
  | rlc_mHL => cases hs
  | rlc_A => exact hP.done (hP.rotReg _ _ h) ht
  | rrc_B => exact hP.done (hP.rotReg _ _ h) ht
  | rrc_C => exact hP.done (hP.rotReg _ _ h) ht
  | rrc_D => exact hP.done (hP.rotReg _ _ h) ht
  | rrc_E => exact hP.done (hP.rotReg _ _ h) ht
  | rrc_H => exact hP.done (hP.rotReg _ _ h) ht
  | rrc_L => exact hP.done (hP.rotReg _ _ h) ht
  | rrc_mHL => cases hs
  | rrc_A => exact hP.done (hP.rotReg _ _ h) ht
  | rl_B => exact hP.done (hP.rotReg _ _ h) ht
  | rl_C => exact hP.done (hP.rotReg _ _ h) ht
  | rl_D => exact hP.done (hP.rotReg _ _ h) ht
  | rl_E => exact hP.done (hP.rotReg _ _ h) ht
  | rl_H => exact hP.done (hP.rotReg _ _ h) ht
  | rl_L => exact hP.done (hP.rotReg _ _ h) ht
  | rl_mHL => cases hs
  | rl_A => exact hP.done (hP.rotReg _ _ h) ht
  | rr_B => exact hP.done (hP.rotReg _ _ h) ht
  | rr_C => exact hP.done (hP.rotReg _ _ h) ht
  | rr_D => exact hP.done (hP.rotReg _ _ h) ht
  | rr_E => exact hP.done (hP.rotReg _ _ h) ht
  | rr_H => exact hP.done (hP.rotReg _ _ h) ht
  | rr_L => exact hP.done (hP.rotReg _ _ h) ht
  | rr_mHL => cases hs
  | rr_A => exact hP.done (hP.rotReg _ _ h) ht
  | sla_B => exact hP.done (hP.rotReg _ _ h) ht
  | sla_C => exact hP.done (hP.rotReg _ _ h) ht
  | sla_D => exact hP.done (hP.rotReg _ _ h) ht
  | sla_E => exact hP.done (hP.rotReg _ _ h) ht
  | sla_H => exact hP.done (hP.rotReg _ _ h) ht
  | sla_L => exact hP.done (hP.rotReg _ _ h) ht
  | sla_mHL => cases hs
  | sla_A => exact hP.done (hP.rotReg _ _ h) ht
  | sra_B => exact hP.done (hP.rotReg _ _ h) ht
  | sra_C => exact hP.done (hP.rotReg _ _ h) ht
  | sra_D => exact hP.done (hP.rotReg _ _ h) ht
  | sra_E => exact hP.done (hP.rotReg _ _ h) ht
  | sra_H => exact hP.done (hP.rotReg _ _ h) ht
  | sra_L => exact hP.done (hP.rotReg _ _ h) ht
  | sra_mHL => cases hs
  | sra_A => exact hP.done (hP.rotReg _ _ h) ht
  | swap_B => exact hP.done (hP.rotReg _ _ h) ht
  | swap_C => exact hP.done (hP.rotReg _ _ h) ht
  | swap_D => exact hP.done (hP.rotReg _ _ h) ht
  | swap_E => exact hP.done (hP.rotReg _ _ h) ht
  | swap_H => exact hP.done (hP.rotReg _ _ h) ht
  | swap_L => exact hP.done (hP.rotReg _ _ h) ht
  | swap_mHL => cases hs
  | swap_A => exact hP.done (hP.rotReg _ _ h) ht
  | srl_B => exact hP.done (hP.rotReg _ _ h) ht
  | srl_C => exact hP.done (hP.rotReg _ _ h) ht
  | srl_D => exact hP.done (hP.rotReg _ _ h) ht
  | srl_E => exact hP.done (hP.rotReg _ _ h) ht
  | srl_H => exact hP.done (hP.rotReg _ _ h) ht
  | srl_L => exact hP.done (hP.rotReg _ _ h) ht
  | srl_mHL => cases hs
  | srl_A => exact hP.done (hP.rotReg _ _ h) ht
  | bit_0_B => exact hP.done (hP.bitReg _ _ h) ht
  | bit_0_C => exact hP.done (hP.bitReg _ _ h) ht
  | bit_0_D => exact hP.done (hP.bitReg _ _ h) ht
  | bit_0_E => exact hP.done (hP.bitReg _ _ h) ht
  | bit_0_H => exact hP.done (hP.bitReg _ _ h) ht
  | bit_0_L => exact hP.done (hP.bitReg _ _ h) ht
  | bit_0_mHL => exact hP.done (hP.bitMem _ h) ht
  | bit_0_A => exact hP.done (hP.bitReg _ _ h) ht
  | bit_1_B => exact hP.done (hP.bitReg _ _ h) ht
  | bit_1_C => exact hP.done (hP.bitReg _ _ h) ht
  | bit_1_D => exact hP.done (hP.bitReg _ _ h) ht
  | bit_1_E => exact hP.done (hP.bitReg _ _ h) ht
  | bit_1_H => exact hP.done (hP.bitReg _ _ h) ht
  | bit_1_L => exact hP.done (hP.bitReg _ _ h) ht
  | bit_1_mHL => exact hP.done (hP.bitMem _ h) ht
  | bit_1_A => exact hP.done (hP.bitReg _ _ h) ht
  | bit_2_B => exact hP.done (hP.bitReg _ _ h) ht
  | bit_2_C => exact hP.done (hP.bitReg _ _ h) ht
  | bit_2_D => exact hP.done (hP.bitReg _ _ h) ht
  | bit_2_E => exact hP.done (hP.bitReg _ _ h) ht
  | bit_2_H => exact hP.done (hP.bitReg _ _ h) ht
  | bit_2_L => exact hP.done (hP.bitReg _ _ h) ht
  | bit_2_mHL => exact hP.done (hP.bitMem _ h) ht
  | bit_2_A => exact hP.done (hP.bitReg _ _ h) ht
  | bit_3_B => exact hP.done (hP.bitReg _ _ h) ht
  | bit_3_C => exact hP.done (hP.bitReg _ _ h) ht
  | bit_3_D => exact hP.done (hP.bitReg _ _ h) ht
  | bit_3_E => exact hP.done (hP.bitReg _ _ h) ht
  | bit_3_H => exact hP.done (hP.bitReg _ _ h) ht
  | bit_3_L => exact hP.done (hP.bitReg _ _ h) ht
  | bit_3_mHL => exact hP.done (hP.bitMem _ h) ht
  | bit_3_A => exact hP.done (hP.bitReg _ _ h) ht
  | bit_4_B => exact hP.done (hP.bitReg _ _ h) ht
  | bit_4_C => exact hP.done (hP.bitReg _ _ h) ht
  | bit_4_D => exact hP.done (hP.bitReg _ _ h) ht
  | bit_4_E => exact hP.done (hP.bitReg _ _ h) ht
  | bit_4_H => exact hP.done (hP.bitReg _ _ h) ht
  | bit_4_L => exact hP.done (hP.bitReg _ _ h) ht
  | bit_4_mHL => exact hP.done (hP.bitMem _ h) ht
  | bit_4_A => exact hP.done (hP.bitReg _ _ h) ht
  | bit_5_B => exact hP.done (hP.bitReg _ _ h) ht
  | bit_5_C => exact hP.done (hP.bitReg _ _ h) ht
  | bit_5_D => exact hP.done (hP.bitReg _ _ h) ht
  | bit_5_E => exact hP.done (hP.bitReg _ _ h) ht
  | bit_5_H => exact hP.done (hP.bitReg _ _ h) ht
  | bit_5_L => exact hP.done (hP.bitReg _ _ h) ht
  | bit_5_mHL => exact hP.done (hP.bitMem _ h) ht
  | bit_5_A => exact hP.done (hP.bitReg _ _ h) ht
  | bit_6_B => exact hP.done (hP.bitReg _ _ h) ht
  | bit_6_C => exact hP.done (hP.bitReg _ _ h) ht
  | bit_6_D => exact hP.done (hP.bitReg _ _ h) ht
  | bit_6_E => exact hP.done (hP.bitReg _ _ h) ht
  | bit_6_H => exact hP.done (hP.bitReg _ _ h) ht
  | bit_6_L => exact hP.done (hP.bitReg _ _ h) ht
  | bit_6_mHL => exact hP.done (hP.bitMem _ h) ht
  | bit_6_A => exact hP.done (hP.bitReg _ _ h) ht
  | bit_7_B => exact hP.done (hP.bitReg _ _ h) ht
  | bit_7_C => exact hP.done (hP.bitReg _ _ h) ht
  | bit_7_D => exact hP.done (hP.bitReg _ _ h) ht
  | bit_7_E => exact hP.done (hP.bitReg _ _ h) ht
  | bit_7_H => exact hP.done (hP.bitReg _ _ h) ht
  | bit_7_L => exact hP.done (hP.bitReg _ _ h) ht
  | bit_7_mHL => exact hP.done (hP.bitMem _ h) ht
  | bit_7_A => exact hP.done (hP.bitReg _ _ h) ht
  | res_0_B => exact hP.done (hP.resReg _ _ h) ht
  | res_0_C => exact hP.done (hP.resReg _ _ h) ht
  | res_0_D => exact hP.done (hP.resReg _ _ h) ht
  | res_0_E => exact hP.done (hP.resReg _ _ h) ht
  | res_0_H => exact hP.done (hP.resReg _ _ h) ht
  | res_0_L => exact hP.done (hP.resReg _ _ h) ht
  | res_0_mHL => cases hs
  | res_0_A => exact hP.done (hP.resReg _ _ h) ht
  | res_1_B => exact hP.done (hP.resReg _ _ h) ht
  | res_1_C => exact hP.done (hP.resReg _ _ h) ht
  | res_1_D => exact hP.done (hP.resReg _ _ h) ht
  | res_1_E => exact hP.done (hP.resReg _ _ h) ht
  | res_1_H => exact hP.done (hP.resReg _ _ h) ht
  | res_1_L => exact hP.done (hP.resReg _ _ h) ht
  | res_1_mHL => cases hs
  | res_1_A => exact hP.done (hP.resReg _ _ h) ht
  | res_2_B => exact hP.done (hP.resReg _ _ h) ht
  | res_2_C => exact hP.done (hP.resReg _ _ h) ht
  | res_2_D => exact hP.done (hP.resReg _ _ h) ht
  | res_2_E => exact hP.done (hP.resReg _ _ h) ht
  | res_2_H => exact hP.done (hP.resReg _ _ h) ht
  | res_2_L => exact hP.done (hP.resReg _ _ h) ht
  | res_2_mHL => cases hs
  | res_2_A => exact hP.done (hP.resReg _ _ h) ht
  | res_3_B => exact hP.done (hP.resReg _ _ h) ht
  | res_3_C => exact hP.done (hP.resReg _ _ h) ht
  | res_3_D => exact hP.done (hP.resReg _ _ h) ht
  | res_3_E => exact hP.done (hP.resReg _ _ h) ht
  | res_3_H => exact hP.done (hP.resReg _ _ h) ht
  | res_3_L => exact hP.done (hP.resReg _ _ h) ht
  | res_3_mHL => cases hs
  | res_3_A => exact hP.done (hP.resReg _ _ h) ht
  | res_4_B => exact hP.done (hP.resReg _ _ h) ht
  | res_4_C => exact hP.done (hP.resReg _ _ h) ht
  | res_4_D => exact hP.done (hP.resReg _ _ h) ht
  | res_4_E => exact hP.done (hP.resReg _ _ h) ht
  | res_4_H => exact hP.done (hP.resReg _ _ h) ht
  | res_4_L => exact hP.done (hP.resReg _ _ h) ht
  | res_4_mHL => cases hs
  | res_4_A => exact hP.done (hP.resReg _ _ h) ht
  | res_5_B => exact hP.done (hP.resReg _ _ h) ht
  | res_5_C => exact hP.done (hP.resReg _ _ h) ht
  | res_5_D => exact hP.done (hP.resReg _ _ h) ht
  | res_5_E => exact hP.done (hP.resReg _ _ h) ht
  | res_5_H => exact hP.done (hP.resReg _ _ h) ht
  | res_5_L => exact hP.done (hP.resReg _ _ h) ht
  | res_5_mHL => cases hs
  | res_5_A => exact hP.done (hP.resReg _ _ h) ht
  | res_6_B => exact hP.done (hP.resReg _ _ h) ht
  | res_6_C => exact hP.done (hP.resReg _ _ h) ht
  | res_6_D => exact hP.done (hP.resReg _ _ h) ht
  | res_6_E => exact hP.done (hP.resReg _ _ h) ht
  | res_6_H => exact hP.done (hP.resReg _ _ h) ht
  | res_6_L => exact hP.done (hP.resReg _ _ h) ht
  | res_6_mHL => cases hs
  | res_6_A => exact hP.done (hP.resReg _ _ h) ht
  | res_7_B => exact hP.done (hP.resReg _ _ h) ht
  | res_7_C => exact hP.done (hP.resReg _ _ h) ht
  | res_7_D => exact hP.done (hP.resReg _ _ h) ht
  | res_7_E => exact hP.done (hP.resReg _ _ h) ht
  | res_7_H => exact hP.done (hP.resReg _ _ h) ht
  | res_7_L => exact hP.done (hP.resReg _ _ h) ht
  | res_7_mHL => cases hs
  | res_7_A => exact hP.done (hP.resReg _ _ h) ht
  | set_0_B => exact hP.done (hP.setReg _ _ h) ht
  | set_0_C => exact hP.done (hP.setReg _ _ h) ht
  | set_0_D => exact hP.done (hP.setReg _ _ h) ht
  | set_0_E => exact hP.done (hP.setReg _ _ h) ht
  | set_0_H => exact hP.done (hP.setReg _ _ h) ht
  | set_0_L => exact hP.done (hP.setReg _ _ h) ht
  | set_0_mHL => cases hs
  | set_0_A => exact hP.done (hP.setReg _ _ h) ht
  | set_1_B => exact hP.done (hP.setReg _ _ h) ht
  | set_1_C => exact hP.done (hP.setReg _ _ h) ht
  | set_1_D => exact hP.done (hP.setReg _ _ h) ht
  | set_1_E => exact hP.done (hP.setReg _ _ h) ht
  | set_1_H => exact hP.done (hP.setReg _ _ h) ht
  | set_1_L => exact hP.done (hP.setReg _ _ h) ht
  | set_1_mHL => cases hs
  | set_1_A => exact hP.done (hP.setReg _ _ h) ht
  | set_2_B => exact hP.done (hP.setReg _ _ h) ht
  | set_2_C => exact hP.done (hP.setReg _ _ h) ht
  | set_2_D => exact hP.done (hP.setReg _ _ h) ht
  | set_2_E => exact hP.done (hP.setReg _ _ h) ht
  | set_2_H => exact hP.done (hP.setReg _ _ h) ht
  | set_2_L => exact hP.done (hP.setReg _ _ h) ht
  | set_2_mHL => cases hs
  | set_2_A => exact hP.done (hP.setReg _ _ h) ht
  | set_3_B => exact hP.done (hP.setReg _ _ h) ht
  | set_3_C => exact hP.done (hP.setReg _ _ h) ht
  | set_3_D => exact hP.done (hP.setReg _ _ h) ht
  | set_3_E => exact hP.done (hP.setReg _ _ h) ht
  | set_3_H => exact hP.done (hP.setReg _ _ h) ht
  | set_3_L => exact hP.done (hP.setReg _ _ h) ht
  | set_3_mHL => cases hs
  | set_3_A => exact hP.done (hP.setReg _ _ h) ht
  | set_4_B => exact hP.done (hP.setReg _ _ h) ht
  | set_4_C => exact hP.done (hP.setReg _ _ h) ht
  | set_4_D => exact hP.done (hP.setReg _ _ h) ht
  | set_4_E => exact hP.done (hP.setReg _ _ h) ht
  | set_4_H => exact hP.done (hP.setReg _ _ h) ht
  | set_4_L => exact hP.done (hP.setReg _ _ h) ht
  | set_4_mHL => cases hs
  | set_4_A => exact hP.done (hP.setReg _ _ h) ht
  | set_5_B => exact hP.done (hP.setReg _ _ h) ht
  | set_5_C => exact hP.done (hP.setReg _ _ h) ht
  | set_5_D => exact hP.done (hP.setReg _ _ h) ht
  | set_5_E => exact hP.done (hP.setReg _ _ h) ht
  | set_5_H => exact hP.done (hP.setReg _ _ h) ht
  | set_5_L => exact hP.done (hP.setReg _ _ h) ht
  | set_5_mHL => cases hs
  | set_5_A => exact hP.done (hP.setReg _ _ h) ht
  | set_6_B => exact hP.done (hP.setReg _ _ h) ht
  | set_6_C => exact hP.done (hP.setReg _ _ h) ht
  | set_6_D => exact hP.done (hP.setReg _ _ h) ht
  | set_6_E => exact hP.done (hP.setReg _ _ h) ht
  | set_6_H => exact hP.done (hP.setReg _ _ h) ht
  | set_6_L => exact hP.done (hP.setReg _ _ h) ht
  | set_6_mHL => cases hs
  | set_6_A => exact hP.done (hP.setReg _ _ h) ht
  | set_7_B => exact hP.done (hP.setReg _ _ h) ht
  | set_7_C => exact hP.done (hP.setReg _ _ h) ht
  | set_7_D => exact hP.done (hP.setReg _ _ h) ht
  | set_7_E => exact hP.done (hP.setReg _ _ h) ht
  | set_7_H => exact hP.done (hP.setReg _ _ h) ht
  | set_7_L => exact hP.done (hP.setReg _ _ h) ht
  | set_7_mHL => cases hs
  | set_7_A => exact hP.done (hP.setReg _ _ h) ht

/-- A property kept by register changes, reads and stores is kept by every instruction that does not act on the engine. -/
theorem exec_plain {P : State → Prop} (hP : ExecPlain P) {i : Instr} {s t : State} (h : P s)
    (hi : i.onEngine = false) (ht : exec i s = .next t) : P t := by
  cases hs : i.stores with
  | false => exact exec_quiet hP.toExecQuiet h hs hi ht
  | true =>
    cases i with
    | ld_mBC_A => exact hP.done (hP.storeReg _ _ h) ht
    | ld_mnn_SP _ => exact hP.done (hP.storeSp _ h) ht
    | ld_mDE_A => exact hP.done (hP.storeReg _ _ h) ht
    | ld_mHLi_A => exact hP.done (hP.setHl _ (hP.storeReg _ _ h)) ht
    | ld_mHLd_A => exact hP.done (hP.setHl _ (hP.storeReg _ _ h)) ht
    | inc_mHL => exact hP.done (hP.incMem h) ht
    | dec_mHL => exact hP.done (hP.decMem h) ht
    | ld_mHL_n _ => exact hP.done (hP.storeByte _ _ h) ht
    | ld_mHL_B => exact hP.done (hP.storeReg _ _ h) ht
    | ld_mHL_C => exact hP.done (hP.storeReg _ _ h) ht
    | ld_mHL_D => exact hP.done (hP.storeReg _ _ h) ht
    | ld_mHL_E => exact hP.done (hP.storeReg _ _ h) ht
    | ld_mHL_H => exact hP.done (hP.storeReg _ _ h) ht
    | ld_mHL_L => exact hP.done (hP.storeReg _ _ h) ht
    | ld_mHL_A => exact hP.done (hP.storeReg _ _ h) ht
    | call_NZ_nn _ => exact hP.done (hP.callIf _ _ h) ht
    | push_BC => exact hP.done (hP.pushPair _ h) ht
    | rst_00 => exact hP.done (hP.call _ h) ht
    | escape_CB _ => exact hP.secondaryEntry _ h ht
    | call_Z_nn _ => exact hP.done (hP.callIf _ _ h) ht
    | call_nn _ => exact hP.done (hP.call _ h) ht
    | rst_08 => exact hP.done (hP.call _ h) ht
    | call_NC_nn _ => exact hP.done (hP.callIf _ _ h) ht
    | push_DE => exact hP.done (hP.pushPair _ h) ht
    | rst_10 => exact hP.done (hP.call _ h) ht
    | call_C_nn _ => exact hP.done (hP.callIf _ _ h) ht
    | rst_18 => exact hP.done (hP.call _ h) ht
    | ldh_mn_A _ => exact hP.done (hP.storeReg _ _ h) ht
    | ldh_mC_A => exact hP.done (hP.storeReg _ _ h) ht
    | push_HL => exact hP.done (hP.pushPair _ h) ht
    | rst_20 => exact hP.done (hP.call _ h) ht
    | ld_mnn_A _ => exact hP.done (hP.storeReg _ _ h) ht
    | rst_28 => exact hP.done (hP.call _ h) ht
    | push_AF => exact hP.done (hP.pushPair _ h) ht
    | rst_30 => exact hP.done (hP.call _ h) ht
    | rst_38 => exact hP.done (hP.call _ h) ht
    | rlc_mHL => exact hP.done (hP.rotMem _ h) ht
    | rrc_mHL => exact hP.done (hP.rotMem _ h) ht
    | rl_mHL => exact hP.done (hP.rotMem _ h) ht
    | rr_mHL => exact hP.done (hP.rotMem _ h) ht
    | sla_mHL => exact hP.done (hP.rotMem _ h) ht
    | sra_mHL => exact hP.done (hP.rotMem _ h) ht
    | swap_mHL => exact hP.done (hP.rotMem _ h) ht
    | srl_mHL => exact hP.done (hP.rotMem _ h) ht
    | res_0_mHL => exact hP.done (hP.resMem _ h) ht
    | res_1_mHL => exact hP.done (hP.resMem _ h) ht
    | res_2_mHL => exact hP.done (hP.resMem _ h) ht
    | res_3_mHL => exact hP.done (hP.resMem _ h) ht
    | res_4_mHL => exact hP.done (hP.resMem _ h) ht
    | res_5_mHL => exact hP.done (hP.resMem _ h) ht
    | res_6_mHL => exact hP.done (hP.resMem _ h) ht
    | res_7_mHL => exact hP.done (hP.resMem _ h) ht
    | set_0_mHL => exact hP.done (hP.setMem _ h) ht
    | set_1_mHL => exact hP.done (hP.setMem _ h) ht
    | set_2_mHL => exact hP.done (hP.setMem _ h) ht
    | set_3_mHL => exact hP.done (hP.setMem _ h) ht
    | set_4_mHL => exact hP.done (hP.setMem _ h) ht
    | set_5_mHL => exact hP.done (hP.setMem _ h) ht
    | set_6_mHL => exact hP.done (hP.setMem _ h) ht
    | set_7_mHL => exact hP.done (hP.setMem _ h) ht
    | _ => cases hs

/-- Every entry of the secondary table completes. -/
theorem State.secondaryEntry_next (s : State) (op2 : Byte) : ∃ t, s.secondaryEntry op2 = .next t := by
  unfold State.secondaryEntry
  dsimp only
  repeat' split
  all_goals exact ⟨_, rfl⟩

/-- An instruction ends in a next state, or raises the decode fault of its own byte; only the unmapped bytes do the latter. -/
theorem exec_cases (i : Instr) (s : State) :
    (∃ t, exec i s = .next t) ∨ (i.onEngine = true ∧ ∃ op, exec i s = s.raiseDecodeFault op) := by
  cases i
  case escape_CB op2 => exact .inl (s.secondaryEntry_next op2)
  all_goals first | exact .inl ⟨_, rfl⟩ | exact .inr ⟨rfl, _, rfl⟩

/-- An instruction that does not act on the engine leaves only its next state. -/
theorem exec_of_stateAfter {i : Instr} {s t : State} (hi : i.onEngine = false) (ht : stateAfter (exec i s) = some t) :
    exec i s = .next t := by
  rcases exec_cases i s with ⟨u, hu⟩ | ⟨he, -⟩
  · rw [hu] at ht ⊢
    cases ht
    rfl
  · rw [hi] at he
    cases he

/-- A property kept by every primitive change, and by entering the wait state, is kept by every instruction. -/
theorem exec_closed {P : State → Prop} (hP : ExecClosed P) {i : Instr} {s t : State} (h : P s)
    (hw : (i = .halt ∨ ∃ p, i = .stop p) → P { s with halted := true }) (ht : stateAfter (exec i s) = some t) : P t := by
  cases hi : i.onEngine with
  | false => exact exec_plain hP.toExecPlain h hi (exec_of_stateAfter hi ht)
  | true =>
    cases i with
    | stop _ => cases ht; exact hP.cost 4 (hw (.inr ⟨_, rfl⟩))
    | halt =>
      cases ht
      refine hP.cost 4 ?_
      unfold State.halt
      exact ExecQuiet.ite _ (hP.bug h) (hw (.inl rfl))
    | illegal_D3 => exact hP.raiseDecodeFault _ h ht
    | reti => cases ht; exact hP.cost 16 (hP.returnFromInterrupt h)
    | illegal_DB => exact hP.raiseDecodeFault _ h ht
    | illegal_DD => exact hP.raiseDecodeFault _ h ht
    | illegal_E3 => exact hP.raiseDecodeFault _ h ht
    | illegal_E4 => exact hP.raiseDecodeFault _ h ht
    | illegal_EB => exact hP.raiseDecodeFault _ h ht
    | illegal_EC => exact hP.raiseDecodeFault _ h ht
    | illegal_ED => exact hP.raiseDecodeFault _ h ht
    | di => cases ht; exact hP.cost 4 (hP.disableInterrupts h)
    | illegal_F4 => exact hP.raiseDecodeFault _ h ht
    | ei => cases ht; exact hP.cost 4 (hP.enableInterrupts h)
    | illegal_FC => exact hP.raiseDecodeFault _ h ht
    | illegal_FD => exact hP.raiseDecodeFault _ h ht
    | _ => cases hi

end Sys2Proof.Machine
end

