-- ==== Sys2Proof/Laws/Step.lean ====
section
/-!
SUPPORT. Everything a step can do, said once: the inversion of `step` and of `cpuStep`, and the closure lemma that turns "kept
by every part of a step" into "kept by every step".
-/
namespace Sys2Proof.Machine

theorem State.buttonPress_fault (s : State) (b : Button) : (s.buttonPress b).fault = s.fault := by
  unfold State.buttonPress
  split <;> rfl

theorem State.saveRequest_fault (s : State) : s.saveRequest.fault = s.fault := by
  unfold State.saveRequest
  split <;> rfl

/-- The host's calls leave a recorded fault, and record none. -/
theorem State.applyCalls_fault : ∀ (cs : List (Nat × HostCall)) (s : State), (State.applyCalls cs s).fault = s.fault
  | [], _ => rfl
  | (k, c) :: rest, s => by
    unfold State.applyCalls
    split
    · rw [State.applyCalls_fault rest]
      cases c with
      | press b => exact (State.buttonPress_fault s b)
      | release b => rfl
      | saveRequest => exact State.saveRequest_fault s
    · rfl

@[simp] theorem State.hostPhase_fault (s : State) : s.hostPhase.fault = s.fault := State.applyCalls_fault _ _

/-- A step leaves the state its CPU engine leaves, advanced by the cost unless a fault is reported. -/
theorem step_cases {s t : State} (h : stateAfter (step s) = some t) :
    (∃ u, s.hostPhase.cpuStep = .next u ∧ t = u.advancePeripherals)
    ∨ ∃ pc op, s.hostPhase.cpuStep = .fault (.decodeFault pc op t) := by
  unfold step State.stepOnce at h
  split at h
  · rename_i u hu
    cases h
    exact .inl ⟨u, hu, rfl⟩
  · rename_i f hf
    cases f with
    | decodeFault pc op u => cases h; exact .inr ⟨pc, op, hf⟩
  · cases h

/-- The five ways a step of the CPU engine ends (spec/60_exceptions.md R400): a recorded fault is reported again, the stall is
consumed, an interrupt is serviced, the wait state goes on, or one instruction is run and may raise the decode fault. -/
theorem cpuStep_cases (s : State) :
    (∃ pc op, s.fault = some (pc, op) ∧ s.cpuStep = reportFault pc op s)
    ∨ (s.fault = none ∧ s.dmaStall ≠ 0 ∧ s.cpuStep = .next { s with dmaStall := 0, cost := s.dmaStall })
    ∨ (s.fault = none ∧ s.dmaStall = 0
        ∧ ∃ i, s.wake.serviced = some i ∧ s.cpuStep = .next ((s.wake.service i).withCost intCost))
    ∨ (s.fault = none ∧ s.dmaStall = 0 ∧ s.wake.serviced = none ∧ s.wake.halted = true
        ∧ s.cpuStep = .next (s.wake.withCost idleCost))
    ∨ (s.fault = none ∧ s.dmaStall = 0 ∧ s.wake.serviced = none ∧ s.wake.halted = false
        ∧ ((∃ v, exec s.wake.fetchInstr.1 s.wake.fetchInstr.2 = .next v ∧ s.cpuStep = .next (v.retire s.wake.eiPending))
          ∨ ∃ op, exec s.wake.fetchInstr.1 s.wake.fetchInstr.2 = s.wake.fetchInstr.2.raiseDecodeFault op
              ∧ s.cpuStep = s.wake.fetchInstr.2.raiseDecodeFault op)) := by
  cases hf : s.fault with
  | some x =>
    obtain ⟨pc, op⟩ := x
    exact .inl ⟨pc, op, rfl, by unfold State.cpuStep; rw [hf]⟩
  | none =>
    right
    unfold State.cpuStep
    rw [hf]
    dsimp only
    by_cases hd : s.dmaStall = 0
    · right
      rw [if_neg (not_not_intro hd)]
      cases hs : s.wake.serviced with
      | some i => exact .inl ⟨rfl, hd, i, rfl, rfl⟩
      | none =>
        right
        cases hw : s.wake.halted with
        | true => exact .inl ⟨rfl, hd, rfl, rfl, rfl⟩
        | false =>
          refine .inr ⟨rfl, hd, rfl, rfl, ?_⟩
          rcases exec_cases s.wake.fetchInstr.1 s.wake.fetchInstr.2 with ⟨v, hv⟩ | ⟨-, op, hop⟩
          · exact .inl ⟨v, hv, by simp [State.runInstruction, hv]⟩
          · refine .inr ⟨op, hop, ?_⟩
            simp only [State.runInstruction, hop]
            rfl
    · exact .inl ⟨rfl, hd, by rw [if_pos hd]⟩

/-- The state after fetching is reached by reads, `PC` moves and clearing the halt bug. -/
theorem fetched_closed {P : State → Prop} (hP : ExecPlain P) (hb : ∀ {s : State}, P s → P { s with haltBug := false })
    {s : State} (h : P s) : P s.fetched := by
  unfold State.fetched
  dsimp only
  split
  · exact hb (hP.touch _ h)
  · exact hP.setPc _ (hP.touch _ h)

/-- So is the state after fetching a whole instruction. -/
theorem fetchInstr_closed {P : State → Prop} (hP : ExecPlain P)
    (hb : ∀ {s : State}, P s → P { s with haltBug := false }) {s : State} (h : P s) : P s.fetchInstr.2 := by
  have h1 := fetched_closed hP hb h
  have h2 := fetched_closed hP hb h1
  have h3 := fetched_closed hP hb h2
  unfold State.fetchInstr
  split
  · exact h1
  · exact h2
  · exact h2
  · exact h3
  · exact h2
  · exact h2
  · exact hP.touch _ h

/-- A property kept by every primitive change an instruction makes and by every other part of a step. -/
structure StepClosed (P : State → Prop) : Prop where
  exec : ExecClosed P
  wait : ∀ {s : State} (b : Bool), P s → P { s with halted := b }
  noBug : ∀ {s : State}, P s → P { s with haltBug := false }
  iflag : ∀ {s : State} (v : BitVec 5), P s → P { s with iflag := v }
  unstall : ∀ {s : State}, P s → P { s with dmaStall := 0 }
  host : ∀ {s : State}, P s → P s.hostPhase
  timer : ∀ {s : State} (n : Nat), P s → P (s.timerAdvance n)
  ppu : ∀ {s : State} (n : Nat), P s → P (s.ppuAdvance n)
  apu : ∀ {s : State} (n : Nat), P s → P (s.apuAdvance n)

/-- An invariant whose every part is kept holds of the state every step leaves, a faulting one too. -/
theorem step_closed {P : State → Prop} (hP : StepClosed P) {s t : State} (h : P s) (ht : stateAfter (step s) = some t) : P t := by
  have hh : P s.hostPhase := hP.host h
  have hwake : P s.hostPhase.wake := by
    unfold State.wake
    split
    · exact hP.wait false hh
    · exact hh
  have hf : P s.hostPhase.wake.fetchInstr.2 := fetchInstr_closed hP.exec.toExecPlain hP.noBug hwake
  have hcpu : ∀ u, stateAfter s.hostPhase.cpuStep = some u → P u := by
    intro u hu
    rcases cpuStep_cases s.hostPhase with ⟨pc, op, -, he⟩ | ⟨-, -, he⟩ | ⟨-, -, i, -, he⟩ | ⟨-, -, -, -, he⟩
      | ⟨-, -, -, -, ⟨v, hv, he⟩ | ⟨op, hop, he⟩⟩ <;> rw [he] at hu
    · cases hu
      exact hP.exec.cost _ hh
    · cases hu
      exact hP.exec.cost _ (hP.unstall hh)
    · cases hu
      refine hP.exec.cost _ (hP.exec.toExecPlain.setPc _ (hP.exec.toExecPlain.push16 _ ?_))
      exact hP.wait false (hP.exec.ime false (hP.iflag _ hwake))
    · cases hu
      exact hP.exec.cost _ hwake
    · cases hu
      have hv' : P v := exec_closed hP.exec hf (fun _ => hP.wait true hf) (by rw [hv]; rfl)
      unfold State.retire
      split
      · exact hP.exec.ei (s := { v with ime := true }) false (hP.exec.ime true hv')
      · exact hv'
    · exact hP.exec.raiseDecodeFault op hf hu
  rcases step_cases ht with ⟨u, hu, rfl⟩ | ⟨pc, op, hu⟩
  · exact hP.apu _ (hP.ppu _ (hP.timer _ (hcpu u (by rw [hu]; rfl))))
  · exact hcpu t (by rw [hu]; rfl)

end Sys2Proof.Machine
end

