-- ==== Sys2Proof/Tests/Slice0.lean ====
section
/-!
SUPPORT. The model's own tests: the checks of `WellFormed`, words of the spec's encodings, single steps against the vectors
of spec/95_test_vectors.md, and for every obligation with hypotheses a state that meets them.
-/
namespace Sys2Proof.Tests

open Sys2Proof Sys2Proof.Machine

/-! ### States for the tests -/

/-- `Rom(a)` for an address below 0x8000, else a store. -/
def put (s : State) (c : Word × Byte) : State :=
  if c.1.toNat < 0x8000 then { s with cart := { s.cart with rom := s.cart.rom.write c.1.toNat c.2, romSize := 0x8000 } }
  else s.write8 c.1 c.2

/-- The state of spec/95_test_vectors.md section 4 before an instruction at 0xC000, with some bytes stored. -/
def start (a f : Byte) (bc de hl sp : Word) (cells : List (Word × Byte)) : State :=
  cells.foldl put
    { State.reset with
      bootMapped := false
      regs :=
        { a := a, f := Flags.ofByte f, b := hiByte bc, c := loByte bc, d := hiByte de, e := loByte de, h := hiByte hl
          l := loByte hl, sp := sp, pc := 0xC000 } }

/-- One step, if it answers a next state. -/
def next (s : State) : Option State :=
  match step s with
  | .next t => some t
  | .fault _ => none
  | .refused _ => none

/-- What a step that ends in a fault reports, with the recorded fault, `PC` and cost of the state it leaves. -/
def faultOf (r : Result) : Option (Word × Byte × Option (Word × Byte) × Word × Nat) :=
  match r with
  | .fault (.decodeFault pc op t) => some (pc, op, t.fault, t.regs.pc, t.cost)
  | .next _ => none
  | .refused _ => none

/-- The state after one step from `s` with the bytes placed where it fetches. -/
def after (bs : List Byte) (s : State) : Option State := next (s.withFetchBytes bs)

/-- At 0xC000 with nothing else set. -/
def idle : State := start 0x00 0x00 0x0000 0x0000 0x0000 0xD000 []

/-- `idle` before the given bytes. -/
def before (bs : List Byte) : State := idle.withFetchBytes bs

/-! ### WellFormed -/

theorem test_escape_byte_alone_is_refused : (Instr.escape_CB 0x00).check = some (.escapeAlone 0x00) := by decide

theorem test_secondary_instruction_is_well_formed : Instr.rlc_B.check = none := by decide

theorem test_every_operand_is_well_formed : ∀ n : Byte, (Instr.ldh_A_mn n).WellFormed := by decide

/-! ### Words written out from the encodings of spec/30_encoding.md and the instruction rules -/

/-- R200: `01 ddd sss`, `ddd` = 000 (`B`), `sss` = 001 (`C`). -/
theorem test_decode_ld_r_r : decode [0b01_000_001] = .ok (.ld_B_C, []) := rfl

/-- R210: 0xFA, then the low byte of the address. -/
theorem test_decode_ld_a_nn : decode [0b1111_1010, 0x0F, 0xFF, 0x77] = .ok (.ld_A_mnn 0xFF0F, [0x77]) := rfl

/-- R240: `00 pp 0001`, `pp` = 11 (`SP`). -/
theorem test_decode_ld_sp_nn : decode [0b00_11_0001, 0xFE, 0xFF] = .ok (.ld_SP_nn 0xFFFE, []) := rfl

/-- R245: `11 qq 0101`, `qq` = 11 (`AF`). -/
theorem test_decode_push_af : decode [0b11_11_0101] = .ok (.push_AF, []) := rfl

/-- R269: `10 011 sss`, `sss` = 101 (`L`). -/
theorem test_decode_sbc : decode [0b10_011_101] = .ok (.sbc_A_L, []) := rfl

/-- R287: `00 110 101`, the memory form of `DEC`. -/
theorem test_decode_dec_hl : decode [0b00_110_101] = .ok (.dec_mHL, []) := rfl

/-- R310: `00 pp 1001`, `pp` = 10 (`HL`). -/
theorem test_decode_add_hl : decode [0b00_10_1001] = .ok (.add_HL_HL, []) := rfl

/-- R313: 0xE8 and the displacement byte. -/
theorem test_decode_add_sp : decode [0b1110_1000, 0x80] = .ok (.add_SP_e 0x80, []) := rfl

/-- R338: 0xCB, `00 111 sss`, `sss` = 111 (`A`). -/
theorem test_decode_srl : decode [0xCB, 0b00_111_111] = .ok (.srl_A, []) := rfl

/-- R341: 0xCB, `01 bbb 110`, `bbb` = 011. -/
theorem test_decode_bit_hl : decode [0xCB, 0b01_011_110] = .ok (.bit_3_mHL, []) := rfl

/-- R361: `110 cc 010`, `cc` = 11 (`C`). -/
theorem test_decode_jp_c : decode [0b110_11_010, 0x34, 0x12] = .ok (.jp_C_nn 0x1234, []) := rfl

/-- R364: `001 cc 000`, `cc` = 10 (`NC`). -/
theorem test_decode_jr_nc : decode [0b001_10_000, 0xFC] = .ok (.jr_NC_e 0xFC, []) := rfl

/-- R370: `11 yyy 111`, `yyy` = 101. -/
theorem test_decode_rst : decode [0b11_101_111] = .ok (.rst_28, []) := rfl

/-- R382: 0x10 and the padding byte. -/
theorem test_decode_stop : decode [0x10, 0x55] = .ok (.stop 0x55, []) := rfl

/-- R155: an unmapped byte. -/
theorem test_decode_unmapped : decode [0xED, 0x00] = .ok (.illegal_ED, [0x00]) := rfl

/-- R150: an instruction that is cut short. -/
theorem test_decode_truncated : decode [0xCD, 0x34] = .error (.truncated 0xCD) := rfl

/-! ### Single steps: the vectors of spec/95_test_vectors.md section 4 -/

/-- V1, `LD B,C`. -/
theorem test_ld_r_r :
    (after [0x41, 0x00, 0x00] (start 0x00 0x00 0x1122 0x0000 0x0000 0x0000 [])).map (fun t => (t.regs.b, t.cost))
      = some (0x22, 4) := by
  decide

/-- V3, `LD D,0x9C`. -/
theorem test_ld_r_n :
    (after [0x16, 0x9C, 0x00] (start 0x00 0x00 0x0000 0x0000 0x0000 0x0000 [])).map (fun t => (t.regs.d, t.cost))
      = some (0x9C, 8) := by
  decide

/-- V5, `LD H,(HL)`. -/
theorem test_ld_r_from_hl :
    (after [0x66, 0x00, 0x00] (start 0x00 0x00 0x0000 0x0000 0xC100 0x0000 [(0xC100, 0xD2)])).map (fun t => (t.regs.h, t.cost))
      = some (0xD2, 8) := by
  decide

/-- V7, `LD (HL),L`. -/
theorem test_ld_hl_from_l :
    (after [0x75, 0x00, 0x00] (start 0x00 0x00 0x0000 0x0000 0xC234 0x0000 [])).map (fun t => (t.read8 0xC234, t.cost))
      = some (0x34, 8) := by
  decide

/-- V8, `LD (HL),0xFF`. -/
theorem test_ld_hl_n :
    (after [0x36, 0xFF, 0x00] (start 0x00 0x00 0x0000 0x0000 0xFF80 0x0000 [])).map (fun t => (t.read8 0xFF80, t.cost))
      = some (0xFF, 12) := by
  decide

/-- V10, `LD A,(DE)`. -/
theorem test_ld_a_from_de_ie :
    (after [0x1A, 0x00, 0x00] (start 0x00 0x00 0x0000 0xFFFF 0x0000 0x0000 [(0xFFFF, 0x15)])).map (fun t => (t.regs.a, t.cost))
      = some (0x15, 8) := by
  decide

/-- V12, `LD (DE),A`. -/
theorem test_ld_de_to_if :
    (after [0x12, 0x00, 0x00] (start 0xFF 0x00 0x0000 0xFF0F 0x0000 0x0000 [])).map (fun t => (t.iflag, t.cost))
      = some (0x1F, 8) := by
  decide

/-- V13, `LD A,(0xFF0F)`. -/
theorem test_ld_a_from_if :
    (after [0xFA, 0x0F, 0xFF] (start 0x00 0x00 0x0000 0x0000 0x0000 0x0000 [(0xFF0F, 0x05)])).map (fun t => (t.regs.a, t.cost))
      = some (0xE5, 16) := by
  decide

/-- V14, `LD (0xC123),A`. -/
theorem test_ld_nn_from_a :
    (after [0xEA, 0x23, 0xC1] (start 0x6B 0x00 0x0000 0x0000 0x0000 0x0000 [])).map (fun t => (t.read8 0xC123, t.cost))
      = some (0x6B, 16) := by
  decide

/-- V15, `LDH A,(C)`. -/
theorem test_ldh_a_from_c :
    (after [0xF2, 0x00, 0x00] (start 0x00 0x00 0x0080 0x0000 0x0000 0x0000 [(0xFF80, 0xAB)])).map (fun t => (t.regs.a, t.cost))
      = some (0xAB, 8) := by
  decide

/-- V16, `LDH (C),A`. -/
theorem test_ldh_c_to_ie :
    (after [0xE2, 0x00, 0x00] (start 0x1F 0x00 0x00FF 0x0000 0x0000 0x0000 [])).map (fun t => (t.ie, t.cost))
      = some (0x1F, 8) := by
  decide

/-- V20, `LD A,(HL+)`. -/
theorem test_ldi_wraps :
    (after [0x2A, 0x00, 0x00] (start 0x00 0x00 0x0000 0x0000 0xFFFF 0x0000 [(0xFFFF, 0x1B)])).map (fun t => (t.regs.hl, t.regs.a, t.cost))
      = some (0x0000, 0x1B, 8) := by
  decide

/-- V21, `LD A,(HL-)`. -/
theorem test_ldd_wraps :
    (after [0x3A, 0x00, 0x00] (start 0x00 0x00 0x0000 0x0000 0x0000 0x0000 [(0x0000, 0x31)])).map (fun t => (t.regs.hl, t.regs.a, t.cost))
      = some (0xFFFF, 0x31, 8) := by
  decide

/-- V22, `LD (HL+),A`. -/
theorem test_ldi_store :
    (after [0x22, 0x00, 0x00] (start 0x01 0x00 0x0000 0x0000 0xC4FF 0x0000 [])).map (fun t => (t.regs.hl, t.read8 0xC4FF, t.cost))
      = some (0xC500, 0x01, 8) := by
  decide

/-- V24, `LD BC,0x1234`. -/
theorem test_ld_bc_nn :
    (after [0x01, 0x34, 0x12] (start 0x00 0x00 0x0000 0x0000 0x0000 0x0000 [])).map (fun t => (t.regs.bc, t.cost))
      = some (0x1234, 12) := by
  decide

/-- V26, `LD (0xC010),SP`. -/
theorem test_ld_nn_sp_order :
    (after [0x08, 0x10, 0xC0] (start 0x00 0x00 0x0000 0x0000 0x0000 0xABCD [])).map (fun t => (t.read8 0xC010, t.read8 0xC011, t.cost))
      = some (0xCD, 0xAB, 20) := by
  decide

/-- V27, `LD SP,HL`. -/
theorem test_ld_sp_hl :
    (after [0xF9, 0x00, 0x00] (start 0x00 0x00 0x0000 0x0000 0xD000 0x0000 [])).map (fun t => (t.regs.sp, t.cost))
      = some (0xD000, 8) := by
  decide

/-- V28, `LD HL,SP+0x01`. -/
theorem test_ldhl_plus :
    (after [0xF8, 0x01, 0x00] (start 0x00 0xF0 0x0000 0x0000 0x0000 0x00FF [])).map (fun t => (t.regs.hl, t.regs.f.toByte, t.cost))
      = some (0x0100, 0x30, 12) := by
  decide

/-- V32, `LD HL,SP-0x80`. -/
theorem test_ldhl_most_negative :
    (after [0xF8, 0x80, 0x00] (start 0x00 0x00 0x0000 0x0000 0x0000 0x0080 [])).map (fun t => (t.regs.hl, t.regs.f.toByte, t.cost))
      = some (0x0000, 0x10, 12) := by
  decide

/-- V34, `PUSH AF`. -/
theorem test_push_order :
    (after [0xF5, 0x00, 0x00] (start 0x12 0xB0 0x0000 0x0000 0x0000 0xD000 [])).map (fun t => (t.regs.sp, t.read8 0xCFFF, t.read8 0xCFFE, t.cost))
      = some (0xCFFE, 0x12, 0xB0, 16) := by
  decide

/-- V37, `POP AF`. -/
theorem test_pop_af_low_nibble :
    (after [0xF1, 0x00, 0x00] (start 0x00 0x00 0x0000 0x0000 0x0000 0xCFFE [(0xCFFE, 0xFF), (0xCFFF, 0x12)])).map (fun t => (t.regs.a, t.regs.sp, t.regs.f.toByte, t.cost))
      = some (0x12, 0xD000, 0xF0, 12) := by
  decide

/-- V39, `POP HL`. -/
theorem test_pop_wraps :
    (after [0xE1, 0x00, 0x00] (start 0x00 0x00 0x0000 0x0000 0x0000 0xFFFF [(0xFFFF, 0x1F), (0x0000, 0x3E)])).map (fun t => (t.regs.hl, t.regs.sp, t.cost))
      = some (0x3E1F, 0x0001, 12) := by
  decide

/-- V40, `ADD A,B`. -/
theorem test_add_half :
    (after [0x80, 0x00, 0x00] (start 0x0F 0xF0 0x0100 0x0000 0x0000 0x0000 [])).map (fun t => (t.regs.a, t.regs.f.toByte, t.cost))
      = some (0x10, 0x20, 4) := by
  decide

/-- V44, `ADD A,(HL)`. -/
theorem test_add_hl :
    (after [0x86, 0x00, 0x00] (start 0x70 0x00 0x0000 0x0000 0xC100 0x0000 [(0xC100, 0x90)])).map (fun t => (t.regs.a, t.regs.f.toByte, t.cost))
      = some (0x00, 0x90, 8) := by
  decide

/-- V48, `ADC A,B`. -/
theorem test_adc_carry :
    (after [0x88, 0x00, 0x00] (start 0x00 0x10 0xFF00 0x0000 0x0000 0x0000 [])).map (fun t => (t.regs.a, t.regs.f.toByte, t.cost))
      = some (0x00, 0xB0, 4) := by
  decide

/-- V53, `SUB B`. -/
theorem test_sub_borrow :
    (after [0x90, 0x00, 0x00] (start 0x00 0x00 0x0100 0x0000 0x0000 0x0000 [])).map (fun t => (t.regs.a, t.regs.f.toByte, t.cost))
      = some (0xFF, 0x70, 4) := by
  decide

/-- V55, `SUB (HL)`. -/
theorem test_sub_hl :
    (after [0x96, 0x00, 0x00] (start 0x3E 0x00 0x0000 0x0000 0xC100 0x0000 [(0xC100, 0x40)])).map (fun t => (t.regs.a, t.regs.f.toByte, t.cost))
      = some (0xFE, 0x50, 8) := by
  decide

/-- V57, `SBC A,B`. -/
theorem test_sbc_borrow :
    (after [0x98, 0x00, 0x00] (start 0x00 0x10 0xFF00 0x0000 0x0000 0x0000 [])).map (fun t => (t.regs.a, t.regs.f.toByte, t.cost))
      = some (0x00, 0xF0, 4) := by
  decide

/-- V63, `AND B`. -/
theorem test_and_flags :
    (after [0xA0, 0x00, 0x00] (start 0x5A 0x50 0x3F00 0x0000 0x0000 0x0000 [])).map (fun t => (t.regs.a, t.regs.f.toByte, t.cost))
      = some (0x1A, 0x20, 4) := by
  decide

/-- V70, `XOR 0xFF`. -/
theorem test_xor_n :
    (after [0xEE, 0xFF, 0x00] (start 0xFF 0x70 0x0000 0x0000 0x0000 0x0000 [])).map (fun t => (t.regs.a, t.regs.f.toByte, t.cost))
      = some (0x00, 0x80, 8) := by
  decide

/-- V73, `OR (HL)`. -/
theorem test_or_hl :
    (after [0xB6, 0x00, 0x00] (start 0x50 0x00 0x0000 0x0000 0xC100 0x0000 [(0xC100, 0x0F)])).map (fun t => (t.regs.a, t.regs.f.toByte, t.cost))
      = some (0x5F, 0x00, 8) := by
  decide

/-- V75, `CP B`. -/
theorem test_cp_keeps_a :
    (after [0xB8, 0x00, 0x00] (start 0x3C 0x00 0x2F00 0x0000 0x0000 0x0000 [])).map (fun t => (t.regs.f.toByte, t.cost))
      = some (0x60, 4) := by
  decide

/-- V80, `INC B`. -/
theorem test_inc_keeps_carry :
    (after [0x04, 0x00, 0x00] (start 0x00 0x10 0xFF00 0x0000 0x0000 0x0000 [])).map (fun t => (t.regs.b, t.regs.f.toByte, t.cost))
      = some (0x00, 0xB0, 4) := by
  decide

/-- V83, `INC (HL)`. -/
theorem test_inc_hl :
    (after [0x34, 0x00, 0x00] (start 0x00 0x10 0x0000 0x0000 0xC100 0x0000 [(0xC100, 0x4F)])).map (fun t => (t.regs.f.toByte, t.read8 0xC100, t.cost))
      = some (0x30, 0x50, 12) := by
  decide

/-- V85, `DEC B`. -/
theorem test_dec_half :
    (after [0x05, 0x00, 0x00] (start 0x00 0x00 0x0000 0x0000 0x0000 0x0000 [])).map (fun t => (t.regs.b, t.regs.f.toByte, t.cost))
      = some (0xFF, 0x60, 4) := by
  decide

/-- V88, `DEC (HL)`. -/
theorem test_dec_hl :
    (after [0x35, 0x00, 0x00] (start 0x00 0x10 0x0000 0x0000 0xC100 0x0000 [(0xC100, 0x00)])).map (fun t => (t.regs.f.toByte, t.read8 0xC100, t.cost))
      = some (0x70, 0xFF, 12) := by
  decide

/-- V91, `DAA`. -/
theorem test_daa_add :
    (after [0x27, 0x00, 0x00] (start 0x9A 0x00 0x0000 0x0000 0x0000 0x0000 [])).map (fun t => (t.regs.a, t.regs.f.toByte, t.cost))
      = some (0x00, 0x90, 4) := by
  decide

/-- V98, `DAA`. -/
theorem test_daa_sub :
    (after [0x27, 0x00, 0x00] (start 0xD2 0x50 0x0000 0x0000 0x0000 0x0000 [])).map (fun t => (t.regs.a, t.regs.f.toByte, t.cost))
      = some (0x72, 0x50, 4) := by
  decide

/-- V99, `DAA`. -/
theorem test_daa_sub_never_adds :
    (after [0x27, 0x00, 0x00] (start 0x9A 0x40 0x0000 0x0000 0x0000 0x0000 [])).map (fun t => (t.regs.a, t.regs.f.toByte, t.cost))
      = some (0x9A, 0x40, 4) := by
  decide

/-- V101, `CPL`. -/
theorem test_cpl :
    (after [0x2F, 0x00, 0x00] (start 0x35 0x90 0x0000 0x0000 0x0000 0x0000 [])).map (fun t => (t.regs.a, t.regs.f.toByte, t.cost))
      = some (0xCA, 0xF0, 4) := by
  decide

/-- V103, `SCF`. -/
theorem test_scf :
    (after [0x37, 0x00, 0x00] (start 0x00 0xE0 0x0000 0x0000 0x0000 0x0000 [])).map (fun t => (t.regs.f.toByte, t.cost))
      = some (0x90, 4) := by
  decide

/-- V105, `CCF`. -/
theorem test_ccf :
    (after [0x3F, 0x00, 0x00] (start 0x00 0xF0 0x0000 0x0000 0x0000 0x0000 [])).map (fun t => (t.regs.f.toByte, t.cost))
      = some (0x80, 4) := by
  decide

/-- V107, `ADD HL,BC`. -/
theorem test_add_hl_carry_11 :
    (after [0x09, 0x00, 0x00] (start 0x00 0x80 0x0001 0x0000 0x0FFF 0x0000 [])).map (fun t => (t.regs.hl, t.regs.f.toByte, t.cost))
      = some (0x1000, 0xA0, 8) := by
  decide

/-- V111, `ADD HL,BC`. -/
theorem test_add_hl_carry_15 :
    (after [0x09, 0x00, 0x00] (start 0x00 0x80 0x8000 0x0000 0x8000 0x0000 [])).map (fun t => (t.regs.hl, t.regs.f.toByte, t.cost))
      = some (0x0000, 0x90, 8) := by
  decide

/-- V112, `INC BC`. -/
theorem test_inc_rp_no_flags :
    (after [0x03, 0x00, 0x00] (start 0x00 0xF0 0xFFFF 0x0000 0x0000 0x0000 [])).map (fun t => (t.regs.bc, t.regs.f.toByte, t.cost))
      = some (0x0000, 0xF0, 8) := by
  decide

/-- V121, `ADD SP,0x08`. -/
theorem test_add_sp_flags :
    (after [0xE8, 0x08, 0x00] (start 0x00 0x00 0x0000 0x0000 0x0000 0xDFF8 [])).map (fun t => (t.regs.sp, t.regs.f.toByte, t.cost))
      = some (0xE000, 0x30, 16) := by
  decide

/-- V125, `RLCA`. -/
theorem test_rlca_clears_z :
    (after [0x07, 0x00, 0x00] (start 0x00 0xF0 0x0000 0x0000 0x0000 0x0000 [])).map (fun t => (t.regs.a, t.regs.f.toByte, t.cost))
      = some (0x00, 0x00, 4) := by
  decide

/-- V126, `RRCA`. -/
theorem test_rrca :
    (after [0x0F, 0x00, 0x00] (start 0x01 0x00 0x0000 0x0000 0x0000 0x0000 [])).map (fun t => (t.regs.a, t.regs.f.toByte, t.cost))
      = some (0x80, 0x10, 4) := by
  decide

/-- V129, `RLA`. -/
theorem test_rla :
    (after [0x17, 0x00, 0x00] (start 0x15 0x10 0x0000 0x0000 0x0000 0x0000 [])).map (fun t => (t.regs.a, t.regs.f.toByte, t.cost))
      = some (0x2B, 0x00, 4) := by
  decide

/-- V131, `RRA`. -/
theorem test_rra :
    (after [0x1F, 0x00, 0x00] (start 0x80 0x10 0x0000 0x0000 0x0000 0x0000 [])).map (fun t => (t.regs.a, t.regs.f.toByte, t.cost))
      = some (0xC0, 0x00, 4) := by
  decide

/-- V134, `RLC (HL)`. -/
theorem test_rlc_hl :
    (after [0xCB, 0x06, 0x00] (start 0x00 0x00 0x0000 0x0000 0xC100 0x0000 [(0xC100, 0x80)])).map (fun t => (t.regs.f.toByte, t.read8 0xC100, t.cost))
      = some (0x10, 0x01, 16) := by
  decide

/-- V137, `RL D`. -/
theorem test_rl_r :
    (after [0xCB, 0x12, 0x00] (start 0x00 0x00 0x0000 0x8000 0x0000 0x0000 [])).map (fun t => (t.regs.d, t.regs.f.toByte, t.cost))
      = some (0x00, 0x90, 8) := by
  decide

/-- V142, `RR (HL)`. -/
theorem test_rr_hl :
    (after [0xCB, 0x1E, 0x00] (start 0x00 0x00 0x0000 0x0000 0xC100 0x0000 [(0xC100, 0x8A)])).map (fun t => (t.regs.f.toByte, t.read8 0xC100, t.cost))
      = some (0x00, 0x45, 16) := by
  decide

/-- V144, `SLA L`. -/
theorem test_sla_r :
    (after [0xCB, 0x25, 0x00] (start 0x00 0x10 0x0000 0x0000 0x00FF 0x0000 [])).map (fun t => (t.regs.l, t.regs.f.toByte, t.cost))
      = some (0xFE, 0x10, 8) := by
  decide

/-- V148, `SRA (HL)`. -/
theorem test_sra_hl :
    (after [0xCB, 0x2E, 0x00] (start 0x00 0x00 0x0000 0x0000 0xC100 0x0000 [(0xC100, 0xFE)])).map (fun t => (t.regs.f.toByte, t.read8 0xC100, t.cost))
      = some (0x00, 0xFF, 16) := by
  decide

/-- V149, `SWAP A`. -/
theorem test_swap_r :
    (after [0xCB, 0x37, 0x00] (start 0xF1 0xF0 0x0000 0x0000 0x0000 0x0000 [])).map (fun t => (t.regs.a, t.regs.f.toByte, t.cost))
      = some (0x1F, 0x00, 8) := by
  decide

/-- V152, `SRL A`. -/
theorem test_srl_r :
    (after [0xCB, 0x3F, 0x00] (start 0x01 0x00 0x0000 0x0000 0x0000 0x0000 [])).map (fun t => (t.regs.a, t.regs.f.toByte, t.cost))
      = some (0x00, 0x90, 8) := by
  decide

/-- V156, `BIT 7,H`. -/
theorem test_bit_r :
    (after [0xCB, 0x7C, 0x00] (start 0x00 0xC0 0x0000 0x0000 0x7F00 0x0000 [])).map (fun t => (t.regs.f.toByte, t.cost))
      = some (0xA0, 8) := by
  decide

/-- V158, `BIT 3,(HL)`. -/
theorem test_bit_hl :
    (after [0xCB, 0x5E, 0x00] (start 0x00 0x80 0x0000 0x0000 0xC100 0x0000 [(0xC100, 0x08)])).map (fun t => (t.regs.f.toByte, t.cost))
      = some (0x20, 12) := by
  decide

/-- V162, `RES 4,(HL)`. -/
theorem test_res_hl :
    (after [0xCB, 0xA6, 0x00] (start 0x00 0x00 0x0000 0x0000 0xC100 0x0000 [(0xC100, 0xFF)])).map (fun t => (t.regs.f.toByte, t.read8 0xC100, t.cost))
      = some (0x00, 0xEF, 16) := by
  decide

/-- V163, `SET 7,A`. -/
theorem test_set_r :
    (after [0xCB, 0xFF, 0x00] (start 0x00 0x00 0x0000 0x0000 0x0000 0x0000 [])).map (fun t => (t.regs.a, t.regs.f.toByte, t.cost))
      = some (0x80, 0x00, 8) := by
  decide

/-- V165, `SET 2,(HL)`. -/
theorem test_set_hl :
    (after [0xCB, 0xD6, 0x00] (start 0x00 0x00 0x0000 0x0000 0xC100 0x0000 [(0xC100, 0x00)])).map (fun t => (t.regs.f.toByte, t.read8 0xC100, t.cost))
      = some (0x00, 0x04, 16) := by
  decide

/-- V166, `JP 0x0150`. -/
theorem test_jp_nn :
    (after [0xC3, 0x50, 0x01] (start 0x00 0x00 0x0000 0x0000 0x0000 0x0000 [])).map (fun t => (t.regs.pc, t.cost))
      = some (0x0150, 16) := by
  decide

/-- V168, `JP NZ,0x1234`. -/
theorem test_jp_cc_not_taken :
    (after [0xC2, 0x34, 0x12] (start 0x00 0x80 0x0000 0x0000 0x0000 0x0000 [])).map (fun t => (t.regs.pc, t.cost))
      = some (0xC003, 12) := by
  decide

/-- V172, `JP HL`. -/
theorem test_jp_hl :
    (after [0xE9, 0x00, 0x00] (start 0x00 0x00 0x0000 0x0000 0xFFFE 0x0000 [])).map (fun t => (t.regs.pc, t.cost))
      = some (0xFFFE, 4) := by
  decide

/-- V175, `JR -0x80`. -/
theorem test_jr_backwards :
    (after [0x18, 0x80, 0x00] (start 0x00 0x00 0x0000 0x0000 0x0000 0x0000 [])).map (fun t => (t.regs.pc, t.cost))
      = some (0xBF82, 12) := by
  decide

/-- V178, `JR NZ,-0x04`. -/
theorem test_jr_cc_taken :
    (after [0x20, 0xFC, 0x00] (start 0x00 0x00 0x0000 0x0000 0x0000 0x0000 [])).map (fun t => (t.regs.pc, t.cost))
      = some (0xBFFE, 12) := by
  decide

/-- V179, `JR NZ,-0x04`. -/
theorem test_jr_cc_not_taken :
    (after [0x20, 0xFC, 0x00] (start 0x00 0x80 0x0000 0x0000 0x0000 0x0000 [])).map (fun t => (t.regs.pc, t.cost))
      = some (0xC002, 8) := by
  decide

/-- V183, `CALL 0x2000`. -/
theorem test_call :
    (after [0xCD, 0x00, 0x20] (start 0x00 0x00 0x0000 0x0000 0x0000 0xD000 [])).map (fun t => (t.regs.sp, t.regs.pc, t.read8 0xCFFF, t.read8 0xCFFE, t.cost))
      = some (0xCFFE, 0x2000, 0xC0, 0x03, 24) := by
  decide

/-- V184, `CALL NZ,0x2000`. -/
theorem test_call_cc_not_taken :
    (after [0xC4, 0x00, 0x20] (start 0x00 0x80 0x0000 0x0000 0x0000 0xD000 [])).map (fun t => (t.regs.pc, t.cost))
      = some (0xC003, 12) := by
  decide

/-- V187, `RET`. -/
theorem test_ret :
    (after [0xC9, 0x00, 0x00] (start 0x00 0x00 0x0000 0x0000 0x0000 0xCFFE [(0xCFFE, 0x03), (0xCFFF, 0xC0)])).map (fun t => (t.regs.sp, t.regs.pc, t.cost))
      = some (0xD000, 0xC003, 16) := by
  decide

/-- V189, `RET NZ`. -/
theorem test_ret_cc_taken :
    (after [0xC0, 0x00, 0x00] (start 0x00 0x00 0x0000 0x0000 0x0000 0xCFFE [(0xCFFE, 0x03), (0xCFFF, 0xC0)])).map (fun t => (t.regs.sp, t.regs.pc, t.cost))
      = some (0xD000, 0xC003, 20) := by
  decide

/-- V191, `RETI`. -/
theorem test_reti_enables :
    (after [0xD9, 0x00, 0x00] { start 0x00 0x00 0x0000 0x0000 0x0000 0xCFFE [(0xCFFE, 0x03), (0xCFFF, 0xC0)] with ime := false }).map (fun t => (t.regs.sp, t.regs.pc, t.ime, t.cost))
      = some (0xD000, 0xC003, true, 16) := by
  decide

/-- V194, `RST 0x28`. -/
theorem test_rst :
    (after [0xEF, 0x00, 0x00] (start 0x00 0x00 0x0000 0x0000 0x0000 0xD000 [])).map (fun t => (t.regs.sp, t.regs.pc, t.read8 0xCFFF, t.read8 0xCFFE, t.cost))
      = some (0xCFFE, 0x0028, 0xC0, 0x01, 16) := by
  decide

/-- V196, `RST 0x38 with SP=0x0000`. -/
theorem test_rst_wraps_into_ie :
    (after [0xFF, 0x00, 0x00] (start 0x00 0x00 0x0000 0x0000 0x0000 0x0000 [])).map (fun t => (t.regs.sp, t.regs.pc, t.read8 0xFFFE, t.ie, t.cost))
      = some (0xFFFE, 0x0038, 0x01, 0xC0, 16) := by
  decide

/-- V199, `HALT`. -/
theorem test_halt_waits :
    (after [0x76, 0x00, 0x00] { start 0x00 0x00 0x0000 0x0000 0x0000 0x0000 [(0xFFFF, 0x01), (0xFF0F, 0x00)] with ime := false }).map (fun t => (t.halted, t.cost))
      = some (true, 4) := by
  decide

/-- V200, `HALT`. -/
theorem test_halt_bug :
    (after [0x76, 0x00, 0x00] { start 0x00 0x00 0x0000 0x0000 0x0000 0x0000 [(0xFFFF, 0x01), (0xFF0F, 0x01)] with ime := false }).map (fun t => (t.haltBug, t.cost))
      = some (true, 4) := by
  decide

/-- V203, `STOP (padding 0x55)`. -/
theorem test_stop_padding :
    (after [0x10, 0x55, 0x00] (start 0x00 0x00 0x0000 0x0000 0x0000 0x0000 [])).map (fun t => (t.regs.pc, t.halted, t.cost))
      = some (0xC002, true, 4) := by
  decide

/-- V205, `DI`. -/
theorem test_di_cancels :
    (after [0xF3, 0x00, 0x00] { start 0x00 0x00 0x0000 0x0000 0x0000 0x0000 [] with ime := false, eiPending := true }).map (fun t => (t.eiPending, t.cost))
      = some (false, 4) := by
  decide

/-- V206, `EI`. -/
theorem test_ei_defers :
    (after [0xFB, 0x00, 0x00] { start 0x00 0x00 0x0000 0x0000 0x0000 0x0000 [] with ime := false }).map (fun t => (t.eiPending, t.cost))
      = some (true, 4) := by
  decide
/-! ### Memory and the other units: section 3 of spec/95_test_vectors.md and examples of the rules -/

/-- M2: an echo store lands in work RAM. -/
theorem test_echo_store : (idle.write8 0xFDFF 0x77).read8 0xDDFF = 0x77 := by decide

/-- M7: `IF` stores five bits and reads with bits 7 to 5 set. -/
theorem test_if_mask : ((idle.write8 0xFF0F 0xFF).write8 0xFF0F 0x00).read8 0xFF0F = 0xE0 := by decide

/-- M9, M10: the overlay covers 0x0000 until a write of 0x01 to 0xFF50. -/
theorem test_overlay :
    let s := { put idle (0x0000, 0x31) with bootMapped := true, bootImage := [(0, 0xF3)] }
    (s.read8 0x0000, (s.write8 0xFF50 0x01).read8 0x0000) = (0xF3, 0x31) := by
  decide

/-- M12, M13: object memory is locked in modes 2 and 3 of a display that is on. -/
theorem test_oam_lock :
    let s := { idle with oam := [(0, 0x10)], ppu := { idle.ppu with lcdc := 0x80, mode := .transfer } }
    (s.read8 0xFE00, (s.write8 0xFE00 0x22).oam.read 0) = (0xFF, 0x10) := by
  decide

/-- R423, R424: the lowest-numbered pending and enabled source is serviced. -/
theorem test_interrupt_vector :
    (next { idle with ime := true, ie := 0x0C, iflag := 0b01100 }).map (fun t => (t.regs.pc, t.iflag, t.ime, t.cost))
      = some (0x0050, 0b01000, false, 20) := by
  decide

/-- R381: after the halt bug the byte 0x3C (`INC A`) is fetched and `PC` stays. -/
theorem test_halt_bug_repeats :
    (next { before [0x3C, 0x00, 0x00] with haltBug := true }).map (fun t => (t.regs.a, t.regs.pc)) = some (0x01, 0xC000) := by
  decide

/-- R384: `NOP` after `EI` ends with `IME` set. -/
theorem test_ei_then_nop :
    (after [0x00, 0x00, 0x00] { idle with eiPending := true }).map (fun t => (t.ime, t.eiPending)) = some (true, false) := by
  decide

/-- R390: the step that meets an unmapped byte ends in the fault, and `PC` stays. -/
theorem test_unmapped_faults :
    faultOf (step (before [0xD3, 0x00, 0x00])) = some (0xC000, 0xD3, some (0xC000, 0xD3), 0xC000, 0) := by
  decide +kernel

/-- R410: the step after it ends in the same fault. -/
theorem test_unmapped_sticks :
    faultOf (step { idle with fault := some (0xC001, 0xD3) }) = some (0xC001, 0xD3, some (0xC001, 0xD3), 0xC000, 0) := by
  decide +kernel

/-- R19, R541: a save request due is made although a fault is recorded. -/
theorem test_save_after_fault :
    let s : State := { idle with
      fault := some (0xC000, 0xD3)
      cart := { idle.cart with kind := .mbc3Rtc, ramBanks := 1, ram := [(0x1FFF, 0x42)] }
      host := { idle.host with calls := [(0, .saveRequest)] } }
    (stateAfter (step s)).map (fun t => (t.host.save.read 0x1FFF, t.host.saveSize)) = some (0x42, 0x2005) := by
  decide +kernel

/-- R542: a layout with padding and the second byte of a time stamp in seconds, at 0x1234 seconds. -/
theorem test_save_layout :
    ({ Rtc.zero with s := 59, dl := 7 } : Rtc).serialize 4660000000 [.live .seconds, .fill 0, .stamp 1000000 1, .live .dayLow]
      = [59, 0, 0x12, 7] := by
  decide

/-- R120, R401: a DMA from page 0xC1 and the stall. -/
theorem test_dma :
    let t := (idle.write8 0xC19F 0x42).write8 0xFF46 0xC1
    (t.oam.read 0x9F, t.dmaStall) = (0x42, 640) := by
  decide +kernel

/-- R454, R455: `TIMA` at 0xFF overflows at the period, and the reload comes with the next batch. -/
theorem test_timer_overflow :
    let s := { idle with timer := { idle.timer with tima := 0xFF, tma := 0x12, tac := 0b101, tsub := 12 } }
    ((s.timerAdvance 4).timer.tima, (s.timerAdvance 4).iflag, ((s.timerAdvance 4).timerAdvance 4).timer.tima,
      ((s.timerAdvance 4).timerAdvance 4).iflag) = (0x00, 0, 0x12, 0b00100) := by
  decide

/-- R460: with the direction group selected, `Right` pressed reads 0 on bit 0; bits 7 and 6 read 1. -/
theorem test_input_read :
    ({ idle with input := { idle.input with sel := 0b10, right := true } }).read8 0xFF00 = 0xEE := by
  decide

/-- R504: register value 0 selects bank 1, and so does a multiple of the bank count. -/
theorem test_rom_bank_zero :
    ({ idle.cart with romBanks := 4, romBank := 0 }).effRomBank = 1
      ∧ ({ idle.cart with romBanks := 4, romBank := 4 }).effRomBank = 1
      ∧ ({ idle.cart with romBanks := 4, romBank := 7 }).effRomBank = 3 := by
  decide

/-- R523: day 511, 23:59:59 and one second. -/
theorem test_day_carry :
    ({ s := 59, m := 59, h := 23, dl := 0xFF, day8 := true, halt := false, carry := false } : Rtc).ticks 1
      = { s := 0, m := 0, h := 0, dl := 0, day8 := false, halt := false, carry := true } := by
  decide

/-- R562: a line is 80 + 172 + 204 cycles. -/
theorem test_line_budgets : PpuMode.budget .oamScan + PpuMode.budget .transfer + PpuMode.budget .hBlank = 456 := by decide

/-- R580, R581, R583: with `SCX` = 9 and `SCY` = 2, column 0 of line 0 is plane pixel (9, 2): map entry (0, 1), row 2 of its tile,
column 1; the tile number 0x80 in signed addressing is at 0x0800, and the planes 0x00 (low) and 0x40 (high) give index 2. -/
theorem test_background_pixel :
    ({ idle.ppu with lcdc := 0x81, scx := 9, scy := 2 } : Ppu).bgIndexAt [(0x0805, 0x40), (0x1801, 0x80)] 0 0 = 2 := by decide

/-- R584: the window at `WX` = 7 shows row `win_line` = 3 of map 1, not `y - WY`; tile 1, row 3, plane 0. -/
theorem test_window_pixel :
    ({ idle.ppu with lcdc := 0xF1, wx := 7, wy := 5, winLine := 3 } : Ppu).bgIndexAt [(0x0016, 0x80), (0x1C00, 0x01)] 9 0 = 1 := by
  decide

/-- R522: hours 31 wrap to 0 without carrying into the day. -/
theorem test_hours_wrap :
    ({ s := 59, m := 59, h := 31, dl := 5, day8 := false, halt := false, carry := false } : Rtc).tick
      = { s := 0, m := 0, h := 0, dl := 5, day8 := false, halt := false, carry := false } := by
  decide

/-- R685: channel 2 alone, on the left with volume 7: 15 × 8; nothing is routed to the right. -/
theorem test_mix :
    let ch : Pulse :=
      { ch := { Chan.zero with enabled := true, dac := true }, env := { Env.zero with vol := 15 }, duty := 3, dutyPos := 1,
        freq := 0 }
    ({ idle.apu with on := true, nr50 := 0x77, nr51 := 0x20, ch2 := ch } : Apu).mix 480 = (120, 0) := by
  decide

/-- R680: the master disable clears `NR50`. -/
theorem test_audio_off :
    (({ idle with apu := { idle.apu with on := true, nr50 := 0x77 } }).write8 0xFF26 0x00).apu.nr50 = 0x00 := by decide

/-! ### States that meet the hypotheses of the obligations -/

theorem witness_DecodeEncodeRoundTrip : (Instr.call_nn 0xFFFF).WellFormed ∧ Instr.nop.WellFormed := by decide

theorem witness_DecodedBytesReencode : decode [0xCB, 0xCB, 0x12] = .ok (.set_1_E, [0x12]) := rfl

/-- Lengths 3, 2 and 1, and the first and the last unmapped byte. -/
theorem witness_LengthFromFirstByte :
    (0xCD ∉ unmappedBytes ∧ decode [0xCD, 0x34, 0x12] = .ok (.call_nn 0x1234, []))
      ∧ (0xCB ∉ unmappedBytes ∧ decode [0xCB, 0x00, 0x12] = .ok (.rlc_B, [0x12]))
      ∧ (0xFF ∉ unmappedBytes ∧ decode [0xFF] = .ok (.rst_38, []))
      ∧ (before [0xD3, 0, 0]).fetchByte ∈ unmappedBytes ∧ (before [0xFD, 0, 0]).fetchByte ∈ unmappedBytes :=
  ⟨⟨by decide, rfl⟩, ⟨by decide, rfl⟩, ⟨by decide, rfl⟩, by decide, by decide⟩

/-- The lowest and the highest stack pointer. -/
theorem witness_PopAfterPush :
    let s := start 0 0 0 0 0 0xC002 []
    let u := start 0 0 0 0 0 0xE000 []
    (s.wram.wf ∧ 0xC002 ≤ s.regs.sp.toNat ∧ s.regs.sp.toNat ≤ 0xE000)
      ∧ (u.wram.wf ∧ 0xC002 ≤ u.regs.sp.toNat ∧ u.regs.sp.toNat ≤ 0xE000) := by
  decide

theorem witness_DecimalAdjustCorrectsBcd :
    (0 < 100 ∧ (start 0x00 0 0 0 0 0 []).regs.a = BitVec.ofNat 8 (0 / 10 * 16 + 0 % 10))
      ∧ (99 < 100 ∧ (start 0x99 0 0 0 0 0 []).regs.a = BitVec.ofNat 8 (99 / 10 * 16 + 99 % 10)) := by
  decide

theorem witness_EscapeByteRunsSecondaryTable : (before [0xCB, 0x37, 0]).fetchByte = 0xCB := by decide

theorem witness_UnmappedBytesFault :
    let s := before [0xD3, 0, 0]
    s.hostPhase.Fetches ∧ s.hostPhase.fetchByte ∈ unmappedBytes :=
  ⟨by decide, by decide⟩

/-- A clause each: an instruction with an operand, a step with no fault on a mapped byte, one with a fault recorded. -/
theorem witness_OnlyRecordedFaultsStop :
    (Instr.ld_mHL_n 0).unmapped = false
      ∧ (idle.fault = none ∧ ¬ (idle.hostPhase.Fetches ∧ idle.hostPhase.fetchByte ∈ unmappedBytes))
      ∧ ({ idle with fault := some (0xC000, 0xD3) } : State).fault = some (0xC000, 0xD3) := by
  decide

theorem witness_StepRunsDecodedInstruction :
    let s := before [0x21, 0x34, 0x12]
    let h := s.hostPhase
    h.Fetches ∧ h.haltBug = false ∧ h.read8 h.regs.pc ∉ unmappedBytes
      ∧ decode [h.read8 h.regs.pc, h.read8 (h.regs.pc + 1), h.read8 (h.regs.pc + 2)] = .ok (.ld_HL_nn 0x1234, [])
      ∧ ∃ t, exec (.ld_HL_nn 0x1234) (({ h with halted := false }.touchRange h.regs.pc 3).setPc (h.regs.pc + 3)) = .next t :=
  ⟨by decide, rfl, by decide, rfl, _, rfl⟩

/-- Every form of an opcode, and a step that runs one. -/
theorem witness_HaltBugRepeatsTheByte :
    let s (b : Byte) : State := { before [b, 0, 0] with haltBug := true }
    let h : State := { (s 0x3C).hostPhase with halted := false }
    ((s 0x3C).haltBug = true ∧ primary (s 0x3C).fetchByte = .op .inc_A ∧ primary (s 0x06).fetchByte = .opN .ld_B_n
      ∧ primary (s 0x18).fetchByte = .opE .jr_e ∧ primary (s 0x10).fetchByte = .opX .stop
      ∧ primary (s 0xC3).fetchByte = .opNN .jp_nn ∧ (s 0xCB).fetchByte = 0xCB
      ∧ primary (s 0xD3).fetchByte = .illegal .illegal_D3)
    ∧ (s 0x3C).hostPhase.Fetches ∧ (s 0x3C).hostPhase.haltBug = true ∧ (s 0x3C).hostPhase.fetchByte ∉ unmappedBytes
      ∧ ∃ t, exec h.fetchInstr.1 h.fetchInstr.2 = .next t :=
  ⟨⟨rfl, rfl, rfl, rfl, rfl, rfl, rfl, rfl⟩, by decide, rfl, by decide, _, rfl⟩

theorem witness_StalledAndWaitingSteps :
    let s : State := { idle with dmaStall := 640 }
    let w : State := { idle with halted := true, ie := 0x01, iflag := 0b00010 }
    (s.hostPhase.fault = none ∧ s.hostPhase.dmaStall ≠ 0)
      ∧ (w.hostPhase.fault = none ∧ w.hostPhase.dmaStall = 0 ∧ w.hostPhase.halted = true ∧ w.hostPhase.pend = 0) := by
  decide

/-- The lowest source and the highest. -/
theorem witness_InterruptService :
    let s : State := { idle with ime := true, ie := 0xFF, iflag := 0b11111 }
    let u : State := { idle with ime := true, ie := 0x10, iflag := 0b11111 }
    (s.hostPhase.fault = none ∧ s.hostPhase.dmaStall = 0 ∧ s.hostPhase.ime = true
        ∧ (s.hostPhase.ie.getLsbD 0 = true ∧ s.hostPhase.iflag.getLsbD 0 = true)
        ∧ ∀ j : Fin 5, j < 0 → ¬ (s.hostPhase.ie.getLsbD j.val = true ∧ s.hostPhase.iflag.getLsbD j.val = true))
      ∧ (u.hostPhase.fault = none ∧ u.hostPhase.dmaStall = 0 ∧ u.hostPhase.ime = true
        ∧ (u.hostPhase.ie.getLsbD 4 = true ∧ u.hostPhase.iflag.getLsbD 4 = true)
        ∧ ∀ j : Fin 5, j < 4 → ¬ (u.hostPhase.ie.getLsbD j.val = true ∧ u.hostPhase.iflag.getLsbD j.val = true)) := by
  decide

/-- A clause each: `EI` with nothing deferred, another instruction with the enable deferred, `DI`. -/
theorem witness_EnableIsDeferredByOneInstruction :
    let s (b : Byte) (arm : Bool) : State := { before [b, 0, 0] with eiPending := arm }
    let runs (s : State) : Bool :=
      decide (s.hostPhase.Fetches) && decide (s.hostPhase.fetchByte ∉ unmappedBytes) && (next s).isSome
    (runs (s 0xFB false) && runs (s 0x00 true) && runs (s 0xF3 true)) = true
      ∧ (s 0xFB false).hostPhase.fetchInstr.1 = .ei ∧ (s 0x00 true).hostPhase.fetchInstr.1 = .nop
      ∧ (s 0xF3 true).hostPhase.fetchInstr.1 = .di :=
  ⟨by decide +kernel, rfl, rfl, rfl⟩

theorem witness_OnlyEngineInstructionsChangeTheEngine :
    Instr.ld_mHL_A.onEngine = false ∧ ∃ t, exec .ld_mHL_A idle = .next t :=
  ⟨rfl, _, rfl⟩

theorem witness_NonStoringInstructionsLeaveMemory :
    (Instr.cp_mHL.stores = false ∧ ∃ t, stateAfter (exec .cp_mHL idle) = some t)
      ∧ (Instr.illegal_ED.stores = false ∧ ∃ t, stateAfter (exec .illegal_ED idle) = some t) :=
  ⟨⟨rfl, _, rfl⟩, ⟨rfl, _, rfl⟩⟩

/-- Outside the window on both sides, inside with a fixed mapping, and on both sides of the clock registers' numbers. -/
theorem witness_ReadsChangeOnlyTheClock :
    let s : State := { idle with cart := { idle.cart with kind := .mbc3Rtc, ramEnable := true, ramSel := 8 } }
    let clock (s : State) (a : Word) : Prop := 0xA000 ≤ a.toNat ∧ a.toNat < 0xC000 ∧ s.cart.kind = .mbc3Rtc
      ∧ s.cart.ramEnable = true ∧ 8 ≤ s.cart.ramSel.toNat ∧ s.cart.ramSel.toNat ≤ 12
    ¬ clock s 0x9FFF ∧ ¬ clock s 0xC000 ∧ ¬ clock idle 0xA000
      ∧ ¬ clock { s with cart := { s.cart with ramSel := 7 } } 0xBFFF
      ∧ ¬ clock { s with cart := { s.cart with ramSel := 13 } } 0xA000
      ∧ ¬ clock { s with cart := { s.cart with ramEnable := false } } 0xA000 := by
  decide +kernel

/-- Both ends of every window. -/
theorem witness_RamStoreChangesOneCell :
    idle.vram.wf ∧ idle.wram.wf ∧ idle.hram.wf
      ∧ ([0x8000, 0x9FFF, 0xC000, 0xDFFF, 0xE000, 0xFDFF, 0xFF80, 0xFFFE] : List Word).all (fun a => decide (isRam a)) := by
  decide +kernel

/-- Object memory locked and not locked, and both ends of each range of the second part. -/
theorem witness_LockedAndUnmappedAddresses :
    let on (m : PpuMode) : State := { idle with ppu := { idle.ppu with lcdc := 0x80, mode := m } }
    let locked (s : State) : Prop :=
      s.ppu.lcdc.getLsbD 7 = true ∧ (s.ppu.mode = .oamScan ∨ s.ppu.mode = .transfer)
    (locked (on .oamScan) ∧ locked (on .transfer) ∧ ¬ locked (on .hBlank) ∧ ¬ locked (on .vBlank) ∧ ¬ locked idle)
      ∧ ([0xFE00, 0xFE9F] : List Word).all (fun a => decide (0xFE00 ≤ a.toNat ∧ a.toNat < 0xFEA0))
      ∧ ([0xFEA0, 0xFEFF, 0xFF03, 0xFF08, 0xFF0E, 0xFF15, 0xFF1F, 0xFF27, 0xFF2F, 0xFF4C, 0xFF4F, 0xFF51, 0xFF7F] : List Word).all (fun a => decide (
          (0xFEA0 ≤ a.toNat ∧ a.toNat < 0xFF00) ∨ a = 0xFF03 ∨ (0xFF08 ≤ a.toNat ∧ a.toNat ≤ 0xFF0E) ∨ a = 0xFF15
            ∨ a = 0xFF1F ∨ (0xFF27 ≤ a.toNat ∧ a.toNat ≤ 0xFF2F) ∨ (0xFF4C ≤ a.toNat ∧ a.toNat ≤ 0xFF4F)
            ∨ (0xFF51 ≤ a.toNat ∧ a.toNat ≤ 0xFF7F))) := by
  decide +kernel

theorem witness_DmaCopiesThePage : ({ idle with oam := [(0x9F, 0x42)] } : State).oam.wf := by decide

/-- A step with the overlay unmapped; the overlay mapped, at both ends. -/
theorem witness_ImagesStayAndOverlayIsOneWay :
    (idle.bootMapped = false ∧ ∃ t, stateAfter (step idle) = some t)
      ∧ State.reset.bootMapped = true ∧ ([0x0000, 0x00FF] : List Word).all (fun a => decide (a.toNat < 0x0100)) :=
  ⟨⟨rfl, _, rfl⟩, rfl, by decide⟩

theorem witness_StepKeepsMemory : MemInv idle ∧ (∃ t, stateAfter (step idle) = some t) :=
  ⟨⟨by decide, by decide, by decide, by decide, by decide, by decide, by decide, by decide, by decide⟩, _, rfl⟩

/-- The display off, and the display on at the start of vertical blank. -/
theorem witness_StepKeepsDisplay :
    let v : State := { idle with ppu := { idle.ppu with lcdc := 0x91, ly := 144, mode := .vBlank } }
    (ScanInv idle ∧ BufferInv idle ∧ ∃ t, stateAfter (step idle) = some t) ∧ (ScanInv v ∧ BufferInv v ∧ (next v).isSome = true) :=
  ⟨⟨⟨by decide +kernel, by decide +kernel, by decide +kernel, by decide +kernel, by decide +kernel⟩, ⟨by decide +kernel, by decide +kernel, by decide +kernel, by decide +kernel, by decide +kernel⟩, _, rfl⟩,
    ⟨by decide +kernel, by decide +kernel, by decide +kernel, by decide +kernel, by decide +kernel⟩, ⟨by decide +kernel, by decide +kernel, by decide +kernel, by decide +kernel, by decide +kernel⟩, by decide +kernel⟩

theorem witness_StepKeepsAudio : ApuInv idle ∧ (∃ t, stateAfter (step idle) = some t) :=
  ⟨⟨by decide, Nat.le_add_left 1 _, Nat.le_refl _, by decide, by decide, by decide, by decide, by decide, by decide, by decide,
    by decide, by decide, by decide⟩, _, rfl⟩

theorem witness_StepKeepsTimerClockAndEngine :
    TimerInv idle ∧ CartInv idle ∧ EngineInv idle ∧ (∃ t, stateAfter (step idle) = some t) :=
  ⟨by decide, ⟨by decide, by decide⟩, ⟨by decide, by decide⟩, _, rfl⟩

/-- The smallest and the largest declared count, both ends of each half; both ends of the RAM window, every group of select
values at its ends, and the write that clears the halt bit. -/
theorem witness_CartridgeRomBanking :
    let c (enable : Bool) (sel : BitVec 4) (banks : Nat) : Cart :=
      { idle.cart with kind := .mbc3Rtc, ramEnable := enable, ramSel := sel, ramBanks := banks }
    let open' (c : Cart) : Bool := decide (c.kind = .mbc3Rtc) && c.ramEnable
    let nothing (c : Cart) : Bool := decide (c.kind = .romOnly ∨ c.ramEnable = false ∨ (c.ramSel.toNat ≤ 3 ∧ c.ramBanks = 0)
      ∨ (4 ≤ c.ramSel.toNat ∧ c.ramSel.toNat ≤ 7) ∨ 13 ≤ c.ramSel.toNat)
    (({ idle.cart with romBanks := 2 } : Cart).romBanks = 2 ^ (0 + 1)
        ∧ ({ idle.cart with romBanks := 512 } : Cart).romBanks = 2 ^ (8 + 1))
      ∧ ([0x0000, 0x3FFF] : List Word).all (fun a => decide (a.toNat < 0x4000 ∧ (idle.bootMapped = true → 0x0100 ≤ a.toNat)))
      ∧ ([0x4000, 0x7FFF] : List Word).all (fun a => decide (0x4000 ≤ a.toNat ∧ a.toNat < 0x8000))
      ∧ ([0xA000, 0xBFFF] : List Word).all (fun a => decide (0xA000 ≤ a.toNat ∧ a.toNat < 0xC000))
      ∧ [idle.cart, c false 0 1, c true 3 0, c true 4 1, c true 7 1, c true 13 1, c true 15 1].all nothing
      ∧ [c true 0 1, c true 3 4].all (fun c => open' c && decide (c.ramSel.toNat ≤ 3)
          && (decide (c.ramBanks = 2 ^ 0) || decide (c.ramBanks = 2 ^ 2)))
      ∧ [c true 8 1, c true 12 1].all (fun c => open' c && decide (8 ≤ c.ramSel.toNat) && decide (c.ramSel.toNat ≤ 12))
      ∧ (0xBF : Byte).getLsbD 6 = false := by
  decide +kernel

/-- Both variants, both ends of each window, and both cases of the latch. -/
theorem witness_CartridgeLatches :
    idle.cart.kind = .romOnly
      ∧ ({ idle.cart with kind := .mbc3Rtc, latchPrev := 0x00 } : Cart).kind = .mbc3Rtc
      ∧ (0x1FFF : Word).toNat < 0x2000
      ∧ ([0x2000, 0x3FFF] : List Word).all (fun a => decide (0x2000 ≤ a.toNat ∧ a.toNat < 0x4000))
      ∧ ([0x4000, 0x5FFF] : List Word).all (fun a => decide (0x4000 ≤ a.toNat ∧ a.toNat < 0x6000))
      ∧ ([0x6000, 0x7FFF] : List Word).all (fun a => decide (0x6000 ≤ a.toNat ∧ a.toNat < 0x8000)) := by
  decide +kernel

theorem witness_ClockTicksAddSeconds :
    Rtc.zero.InRange ∧ ({ Rtc.zero with s := 59, m := 59, h := 23, dl := 0xFF, day8 := true } : Rtc).InRange := by
  decide

/-- A running clock and a halted one; the registers at the tops of their widths. -/
theorem witness_ClockAdvanceSplits :
    (idle.cart.rtcAnchor ≤ 999999 ∧ 999999 ≤ 1000000 ∧ idle.cart.rtc.halt = false)
      ∧ ({ idle.cart with rtc := { Rtc.zero with halt := true } } : Cart).rtc.halt = true
      ∧ ({ Rtc.zero with s := 63 } : Rtc).s.toNat = 63
      ∧ (let r : Rtc := { Rtc.zero with s := 59, m := 63 }; r.s.toNat = 59 ∧ r.m.toNat = 63)
      ∧ (let r : Rtc := { Rtc.zero with s := 59, m := 59, h := 31 }; r.s.toNat = 59 ∧ r.m.toNat = 59 ∧ r.h.toNat = 31) := by
  decide

/-- An image of the RTC-capable variant with one bank of RAM. -/
def rtcImage : List Byte := List.replicate 0x147 0 ++ [0x10, 0x01, 0x02]

/-- A state of that variant with one byte of RAM to save. -/
def rtcState : State := { idle with cart := { idle.cart with kind := .mbc3Rtc, ramBanks := 1, ram := [(0x1FFF, 0x42)] } }

theorem bytes_getD (f : Nat → Byte) (n i : Nat) (h : i < n) : ((List.range n).map f).getD i 0 = f i := by
  simp [List.getD, h]

/-- A state to save, and a construction from that image over the bytes saved. -/
theorem witness_SaveRoundTrip :
    let t := rtcState.saveRequest
    let bytes := (List.range t.host.saveSize).map t.host.save.read
    let a : ConstructArgs := { ConstructArgs.default with rom := rtcImage, save := some bytes }
    (rtcState.cart.kind = .mbc3Rtc ∧ rtcState.cart.ram.Fits (rtcState.cart.ramBanks * 0x2000) ∧ rtcState.host.save.wf
      ∧ ∀ f : RtcField, .live f ∈ rtcState.par.rtcSaveLayout)
    ∧ a.save = some bytes ∧ bytes.length = t.host.saveSize
    ∧ (∀ i, i < bytes.length → bytes.getD i 0 = t.host.save.read i)
    ∧ a.par.rtcSaveLayout = rtcState.par.rtcSaveLayout ∧ (State.construct a).cart.kind = .mbc3Rtc
    ∧ (State.construct a).cart.ramBanks = rtcState.cart.ramBanks := by
  have hk : kindOfType (headerByte rtcImage 0x147) = .mbc3Rtc := by decide +kernel
  have hb : ramBanksOf .mbc3Rtc (headerByte rtcImage 0x149) = 1 := by decide +kernel
  refine ⟨⟨by decide, by decide, by decide, fun f => by cases f <;> decide⟩, rfl, by simp, ?_, rfl, hk, ?_⟩
  · intro i h
    exact bytes_getD _ _ i (by simpa using h)
  · show ramBanksOf (kindOfType (headerByte rtcImage 0x147)) (headerByte rtcImage 0x149) = 1
    rw [hk, hb]

/-- Each clause: the display off and staying off, off and switched on, on and staying on, on and switched off. -/
theorem witness_StatLineAndDisplaySwitch :
    let on : State := { idle with ppu := { idle.ppu with lcdc := 0x91 } }
    (idle.ppu.lcdc.getLsbD 7 = false ∧ idle.ppu.lcdc.getLsbD 7 = (0x7F : Byte).getLsbD 7 ∧ (0x80 : Byte).getLsbD 7 = true)
      ∧ on.ppu.lcdc.getLsbD 7 = true ∧ on.ppu.lcdc.getLsbD 7 = (0x80 : Byte).getLsbD 7 ∧ (0x11 : Byte).getLsbD 7 = false := by
  decide +kernel

/-- Each mode one cycle before its end and at it, at both ends of what a batch may reach; the start of a frame. -/
theorem witness_FrameIsSeventyThousandCycles :
    let s (m : PpuMode) (k : Nat) : State := { idle with ppu := { idle.ppu with lcdc := 0x91, mode := m, modeClock := k } }
    let inside (m : PpuMode) (k n low high : Nat) : Bool :=
      decide ((s m k).ppu.lcdc.getLsbD 7 = true ∧ (s m k).ppu.mode = m ∧ low ≤ (s m k).ppu.modeClock + n
        ∧ (s m k).ppu.modeClock + n < high)
    (inside .oamScan 79 0 0 80 && inside .transfer 171 0 0 172 && inside .hBlank 203 0 0 204 && inside .vBlank 455 0 0 456
      && inside .oamScan 79 1 80 252 && inside .oamScan 79 172 80 252 && inside .transfer 171 1 172 376
      && inside .transfer 171 204 172 376 && inside .hBlank 203 1 204 284 && inside .hBlank 203 80 204 284
      && inside .vBlank 455 1 456 536 && inside .vBlank 455 80 456 536) = true
    ∧ ((s .oamScan 0).ppu.modeClock < (s .oamScan 0).ppu.mode.budget ∧ (s .oamScan 0).ppu.lcdc.getLsbD 7 = true
      ∧ (s .oamScan 0).ppu.mode = .oamScan ∧ (s .oamScan 0).ppu.modeClock = 0 ∧ (s .oamScan 0).ppu.ly = 0) := by
  decide +kernel

/-- Each clause: a line without sprites over blank tiles; a sprite at the last of its rows on line 0; both heights; a column with
no sprite, and one in which the sprite of index 0 shows and is on top. -/
theorem witness_RenderingProperties :
    let p : Ppu := { idle.ppu with lcdc := 0x91, sprites := [⟨9, 0, 0, 0x80⟩] }
    let q : Ppu := { idle.ppu with lcdc := 0x93, sprites := [⟨16, 8, 0, 0⟩] }
    let vram : Memory := [(0, 0x80)]
    let shows (e : Sprite × Nat) : Prop :=
      q.lcdc.getLsbD 1 = true ∧ q.objDrawn.getD 0 false = false ∧ e ∈ q.selectSprites 0
        ∧ e.1.x.toNat ≤ 0 + 8 ∧ 0 < e.1.x.toNat ∧ e.1.index vram (if q.lcdc.getLsbD 2 then 16 else 8) 0 (0 + 8 - e.1.x.toNat) ≠ 0
        ∧ (e.1.attr.getLsbD 7 = false ∨ q.bgIndexAt vram 0 0 = 0)
    (p.lcdc.getLsbD 0 = true ∧ p.lcdc.getLsbD 1 = false ∧ (∀ k, k < 0x1800 → Memory.read [] k = 0) ∧ 143 < p.fb.length)
      ∧ (p.sprites[0]? = some ⟨9, 0, 0, 0x80⟩ ∧ (9 : Byte).toNat ≤ 0 + 16
        ∧ 0 + 16 < (9 : Byte).toNat + (if p.lcdc.getLsbD 2 then 16 else 8))
      ∧ ((8 = 8 ∨ 8 = 16) ∧ (16 = 8 ∨ 16 = 16) ∧ 7 < 8)
      ∧ (143 < p.fb.length ∧ 159 < 160 ∧ p.objDrawn.length = 160 ∧ p.lcdc.getLsbD 1 ≠ true)
      ∧ (0 < q.fb.length ∧ q.objDrawn.length = 160 ∧ shows (⟨16, 8, 0, 0⟩, 0) ∧ ∀ e', shows e' → e' = (⟨16, 8, 0, 0⟩, 0)) := by
  intro p q vram shows
  have hs : q.selectSprites 0 = [(⟨16, 8, 0, 0⟩, 0)] := by decide +kernel
  refine ⟨⟨by decide +kernel, by decide +kernel, fun _ _ => rfl, by decide +kernel⟩, by decide +kernel, by decide,
    by decide +kernel, by decide +kernel, by decide +kernel, by decide +kernel, ?_⟩
  intro e h
  simpa [hs] using h.2.2.1

/-- Each clause: on and switched off, off and switched on, written unchanged, and a write while off at both ends. -/
theorem witness_AudioMasterEnable :
    let on : State := { idle with apu := { idle.apu with on := true } }
    (on.apu.on = true ∧ (0x7F : Byte).getLsbD 7 = false) ∧ (idle.apu.on = false ∧ (0x80 : Byte).getLsbD 7 = true)
      ∧ (on.apu.on = (0x80 : Byte).getLsbD 7 ∧ idle.apu.on = (0x7F : Byte).getLsbD 7)
      ∧ ([0xFF10, 0xFF25] : List Word).all (fun a => decide (0xFF10 ≤ a.toNat ∧ a.toNat ≤ 0xFF25)) := by
  decide +kernel

/-- The master enable, a byte with bit 7 set and one without, and both ends of the wave table. -/
theorem witness_ChannelTriggers :
    ({ idle with apu := { idle.apu with on := true } } : State).apu.on = true ∧ (0x80 : Byte).getLsbD 7 = true
      ∧ (0x7F : Byte).getLsbD 7 = false
      ∧ ([0xFF30, 0xFF3F] : List Word).all (fun a => decide (0xFF30 ≤ a.toNat ∧ a.toNat < 0xFF40)) ∧ idle.apu.wave.wf := by
  decide

/-- The noise channel counting and shifting; the counters at their ends. -/
theorem witness_SequencerAndSamples :
    (1 < ({ Chan.zero with ftimer := 2 } : Chan).ftimer ∧ ({ Chan.zero with ftimer := 1 } : Chan).ftimer ≤ 1)
      ∧ ({ idle.apu with seqClock := 8191 } : Apu).seqClock < 8192
      ∧ (1 ≤ idle.apu.sampleClock ∧ idle.apu.sampleClock ≤ idle.par.samplePeriodPred + 1) ∧ 480 ≤ 480 :=
  ⟨by decide, by decide, ⟨Nat.le_add_left 1 _, Nat.le_refl _⟩, Nat.le_refl _⟩

/-- Both profiles; no save data; save data of the RTC-capable variant without RAM: none, one byte short, the whole block. -/
theorem witness_ConstructionTables :
    let rom : List Byte := List.replicate 0x147 0 ++ [0x10, 0x01, 0x00]
    let a (n : Nat) : ConstructArgs := { ConstructArgs.default with rom := rom, save := some (List.replicate n 0xFF) }
    ConstructArgs.default.par.boot = .overlay ∧ ConstructArgs.default.save = none
      ∧ ({ ConstructArgs.default with par := { Params.default with boot := .skip } } : ConstructArgs).par.boot = .skip
      ∧ [0, 4, 5].all (fun n => decide ((Cart.construct (a n)).kind = .mbc3Rtc ∧ (Cart.construct (a n)).ramBanks = 0))
      ∧ (a 5).par.rtcSaveLayout = Params.default.rtcSaveLayout ∧ (a 5).par.rtcSaveLayout.length = 5
      ∧ (a 4).save.map List.length = some 4 :=
  ⟨rfl, rfl, rfl, by decide +kernel, rfl, rfl, rfl⟩

end Sys2Proof.Tests
end

/-!
SUPPORT. What a step does to the storage: the arrays, the images with the header-derived sizes, the overlay flag and the
parameters. `StorageChange` lists the changes the model can make to it, and `step_storage` says that a step is a sequence of
them; an invariant of the storage is then one fact per change.
-/
namespace Sys2Proof.Machine

/-! ### What the pixel processor leaves alone -/

/-- `f` looks at nothing the pixel processor changes: its own state, its two requests and the frame-ready signal. -/
structure PpuBlind {α : Type} (f : State → α) : Prop where
  ppu : ∀ (s : State) (p : Ppu), f { s with ppu := p } = f s
  stat : ∀ s : State, f (s.requestInterrupt .stat) = f s
  vBlank : ∀ s : State, f (s.requestInterrupt .vBlank) = f s
  frameReady : ∀ (s : State) (b : Bool), f { s with host := { s.host with frameReady := b } } = f s

namespace PpuBlind

variable {α : Type} {f : State → α}

theorem evalStat (hf : PpuBlind f) (s : State) : f s.evalStat = f s := by
  unfold State.evalStat
  dsimp only
  split
  · split
    · exact (hf.ppu (s.requestInterrupt .stat) _).trans (hf.stat s)
    · exact hf.ppu s _
  · exact hf.ppu s _

theorem exitMode (hf : PpuBlind f) (s : State) : f s.exitMode = f s := by
  have hset : ∀ p : Ppu, f { s with ppu := p }.evalStat = f s := fun p => (hf.evalStat _).trans (hf.ppu s p)
  unfold State.exitMode
  split
  · exact hset _
  · exact hset _
  · unfold State.exitHBlank
    dsimp only
    split
    · let t := s.requestInterrupt .vBlank
      calc f { t with ppu := { s.ppu.nextLine with mode := .vBlank }, host := { s.host with frameReady := true } }.evalStat
        _ = f { t with ppu := { s.ppu.nextLine with mode := .vBlank }, host := { s.host with frameReady := true } } :=
          hf.evalStat _
        _ = f { t with host := { t.host with frameReady := true } } :=
          hf.ppu { t with host := { t.host with frameReady := true } } _
        _ = f t := hf.frameReady t true
        _ = f s := hf.vBlank s
    · exact hset _
  · unfold State.exitVBlankLine
    split <;> exact hset _

theorem ppuLoop (hf : PpuBlind f) : ∀ (fuel : Nat) (s : State), f (State.ppuLoop fuel s) = f s
  | 0, _ => rfl
  | fuel + 1, s => by
    unfold State.ppuLoop
    split
    · rw [hf.ppuLoop fuel, hf.exitMode, hf.ppu]
    · rfl

theorem ppuAdvance (hf : PpuBlind f) (n : Nat) (s : State) : f (s.ppuAdvance n) = f s := by
  unfold State.ppuAdvance
  split
  · rw [hf.ppuLoop, hf.ppu]
  · rfl

end PpuBlind

/-! ### The storage of a state -/

/-- The part of the state that only memory operations reach. -/
structure Storage where
  bootMapped : Bool
  bootImage : Memory
  vram : Memory
  wram : Memory
  oam : Memory
  hram : Memory
  kind : CartKind
  rom : Memory
  romSize : Nat
  romBanks : Nat
  ramBanks : Nat
  ram : Memory
  wave : Memory
  save : Memory
  par : Params

/-- The storage of a state. -/
def State.storage (s : State) : Storage where
  bootMapped := s.bootMapped
  bootImage := s.bootImage
  vram := s.vram
  wram := s.wram
  oam := s.oam
  hram := s.hram
  kind := s.cart.kind
  rom := s.cart.rom
  romSize := s.cart.romSize
  romBanks := s.cart.romBanks
  ramBanks := s.cart.ramBanks
  ram := s.cart.ram
  wave := s.apu.wave
  save := s.host.save
  par := s.par

/-- Every change the model makes to the storage: a store inside an array, a save request, the overlay unmapped. -/
inductive StorageChange : Storage → Storage → Prop where
  | vram (m : Storage) {i : Nat} (v : Byte) (h : i < 0x2000) : StorageChange m { m with vram := m.vram.write i v }
  | wram (m : Storage) {i : Nat} (v : Byte) (h : i < 0x2000) : StorageChange m { m with wram := m.wram.write i v }
  | oam (m : Storage) {i : Nat} (v : Byte) (h : i < 0xA0) : StorageChange m { m with oam := m.oam.write i v }
  | hram (m : Storage) {i : Nat} (v : Byte) (h : i < 0x7F) : StorageChange m { m with hram := m.hram.write i v }
  | ram (m : Storage) {i : Nat} (v : Byte) (h : i < m.ramBanks * 0x2000) : StorageChange m { m with ram := m.ram.write i v }
  | wave (m : Storage) {i : Nat} (v : Byte) (h : i < 16) : StorageChange m { m with wave := m.wave.write i v }
  | save (m : Storage) (n : Nat) (bs : List Byte) :
    StorageChange m { m with save := (m.ram.splice m.save n).writeAll n bs }
  | unmap (m : Storage) : StorageChange m { m with bootMapped := false }

/-- Any number of such changes, one after the other. -/
inductive StorageChanges : Storage → Storage → Prop where
  | refl {m : Storage} : StorageChanges m m
  | tail {m n p : Storage} : StorageChanges m n → StorageChange n p → StorageChanges m p

theorem StorageChanges.single {m n : Storage} (h : StorageChange m n) : StorageChanges m n := .tail .refl h

theorem StorageChanges.trans {m n p : Storage} (h₁ : StorageChanges m n) (h₂ : StorageChanges n p) :
    StorageChanges m p := by
  induction h₂ with
  | refl => exact h₁
  | tail _ hc ih => exact .tail ih hc

/-- `t`'s storage comes from `s`'s by such changes. -/
abbrev StorageReach (s t : State) : Prop := StorageChanges s.storage t.storage

theorem StorageReach.of_eq {s t : State} (h : t.storage = s.storage) : StorageReach s t := by
  rw [StorageReach, h]
  exact .refl

/-! ### Parts of a step that leave the storage -/

@[simp] theorem State.rtcAdvance_storage (s : State) : s.rtcAdvance.storage = s.storage := by
  simp only [State.storage, State.rtcAdvance_cart, Cart.advanceTo_kind, Cart.advanceTo_rom, Cart.advanceTo_romSize,
    Cart.advanceTo_romBanks, Cart.advanceTo_ramBanks, Cart.advanceTo_ram]
  rfl

@[simp] theorem State.touch8_storage (s : State) (a : Word) : (s.touch8 a).storage = s.storage := by
  rcases s.touch8_cases a with h | h <;> rw [h]
  exact s.rtcAdvance_storage

theorem State.rtcWrite_storage (s : State) (f : RtcField) (v : Byte) : (s.rtcWrite f v).storage = s.storage := by
  rw [← s.rtcAdvance_storage]
  unfold State.rtcWrite
  dsimp only
  split <;> rfl

theorem State.latchWrite_storage (s : State) (v : Byte) : (s.latchWrite v).storage = s.storage := by
  unfold State.latchWrite
  dsimp only
  split
  · exact s.rtcAdvance_storage
  · rfl

theorem ppuBlind_storage : PpuBlind State.storage := ⟨fun _ _ => rfl, fun _ => rfl, fun _ => rfl, fun _ _ => rfl⟩

theorem State.writeLcdc_storage (s : State) (v : Byte) : (s.writeLcdc v).storage = s.storage := by
  unfold State.writeLcdc
  dsimp only
  split
  · rfl
  split
  · exact ppuBlind_storage.evalStat _
  · rfl

theorem State.timerAdvance_storage (s : State) (n : Nat) : (s.timerAdvance n).storage = s.storage := by
  unfold State.timerAdvance State.timerReload
  dsimp only
  split <;> rfl

/-! ### The wave table is no channel's -/

theorem Apu.fireSequencer_wave (a : Apu) (ps : List (BitVec 3)) (p : BitVec 3) :
    (a.fireSequencer ps p).wave = a.wave := by
  unfold Apu.fireSequencer
  dsimp only
  split
  · have h1 : (if ps.contains p = true then a.lengthTicks else a).wave = a.wave := by split <;> rfl
    have h2 : ∀ b : Apu, (if p = 2 ∨ p = 6 then b.sweepTicks else b).wave = b.wave := fun b => by split <;> rfl
    have h3 : ∀ b : Apu, (if p = 7 then b.envelopeTicks else b).wave = b.wave := fun b => by split <;> rfl
    rw [h3, h2, h1]
  · rfl

theorem Apu.cycle_wave (a : Apu) (ps : List (BitVec 3)) : (a.cycle ps).wave = a.wave := by
  have hseq : (a.sequencerCycle ps).wave = a.wave := by
    unfold Apu.sequencerCycle
    split
    · exact a.fireSequencer_wave ps a.seqPhase
    · rfl
  rw [← hseq]
  unfold Apu.cycle Apu.channelCycle
  split <;> rfl

theorem Apu.writeNr_wave (a : Apu) (r : NrReg) (v : Byte) : (a.writeNr r v).wave = a.wave := by
  have h52 : (a.writeNr52 v).wave = a.wave := by
    unfold Apu.writeNr52
    split
    · rfl
    split <;> rfl
  unfold Apu.writeNr
  split
  · exact h52
  split
  · cases r with
    | nr14 => unfold Apu.writeNrOn; dsimp only; split <;> rfl
    | nr52 => exact h52
    | _ => rfl
  · rfl

theorem State.apuCycle_storage (s : State) : s.apuCycle.storage = s.storage := by
  have hwave := s.apu.cycle_wave s.par.lengthPhases
  unfold State.apuCycle State.storage
  dsimp only
  rw [hwave]

theorem State.apuAdvance_storage : ∀ (n : Nat) (s : State), (s.apuAdvance n).storage = s.storage
  | 0, _ => rfl
  | n + 1, s => (State.apuAdvance_storage n s.apuCycle).trans s.apuCycle_storage

/-! ### Stores -/

/-- Where a window starts; the overlay and the cartridge image start at 0. -/
def Window.base : Window → Word
  | .boot => 0x0000
  | .cartRom => 0x0000
  | .vram => 0x8000
  | .cartRam => 0xA000
  | .wram => 0xC000
  | .echo => 0xE000
  | .oam => 0xFE00
  | .reserved => 0xFEA0
  | .io => 0xFF00
  | .hram => 0xFF80
  | .ie => 0xFFFF

/-- How many addresses a window has from its base on. -/
def Window.size : Window → Nat
  | .boot => 0x0100
  | .cartRom => 0x8000
  | .vram => 0x2000
  | .cartRam => 0x2000
  | .wram => 0x2000
  | .echo => 0x1E00
  | .oam => 0x00A0
  | .reserved => 0x0060
  | .io => 0x0080
  | .hram => 0x007F
  | .ie => 0x0001

/-- An address lies inside its window (R81). -/
theorem offsetIn_window (s : State) (a : Word) : offsetIn a (s.window a).base < (s.window a).size := by
  have hbounds : ∀ w, s.window a = w → offsetIn a w.base < w.size := by
    intro w hw
    unfold State.window windowOf at hw
    unfold offsetIn
    repeat' split at hw
    all_goals
      subst hw
      simp only [Window.base, Window.size]
      bv_omega
  exact hbounds _ rfl

/-- The bank number masked by the bank count stays below it, so the byte reached lies inside `cart_ram` (R507). -/
theorem Cart.ramTarget_lt {c : Cart} {a : Word} {off : Nat} (h : c.ramTarget a = .ram off)
    (ha : offsetIn a 0xA000 < 0x2000) : off < c.ramBanks * 0x2000 := by
  unfold Cart.ramTarget at h
  split at h
  · cases h
  split at h
  · cases h
  split at h
  · split at h
    · cases h
    · rename_i hb
      cases h
      have hbank : c.ramSel.toNat &&& (c.ramBanks - 1) ≤ c.ramBanks - 1 := Nat.and_le_right
      omega
  · split at h <;> cases h

theorem State.ramWindowWrite_reach (s : State) (a : Word) (v : Byte) (ha : offsetIn a 0xA000 < 0x2000) :
    StorageReach s (s.ramWindowWrite a v) := by
  unfold State.ramWindowWrite
  split
  · rename_i off hoff
    exact .single (.ram s.storage v (Cart.ramTarget_lt hoff ha))
  · exact .of_eq (s.rtcWrite_storage _ v)
  · exact .refl

/-- A write of the cartridge, from its two windows: below 0x8000 it reaches a latch, above it the RAM window. -/
theorem State.cartWrite_reach (s : State) (a : Word) (v : Byte) (ha : a.toNat < 0x8000 ∨ offsetIn a 0xA000 < 0x2000) :
    StorageReach s (s.cartWrite a v) := by
  unfold State.cartWrite
  split
  · exact .refl
  split
  · exact .refl
  split
  · exact .refl
  split
  · exact .refl
  split
  · exact .of_eq (s.latchWrite_storage v)
  · exact s.ramWindowWrite_reach a v (by omega)

/-- The DMA copy stores at the indices below 160 (R120). -/
theorem State.dmaCopy_reach (v : Byte) : ∀ (k i : Nat) (s : State), i + k ≤ 0xA0 → StorageReach s (s.dmaCopy v i k)
  | 0, _, _, _ => .refl
  | k + 1, i, s, h => by
    unfold State.dmaCopy
    dsimp only
    let t := s.touch8 (dmaSource v i)
    let u : State := { t with oam := t.oam.write i (s.read8 (dmaSource v i)) }
    have hread : StorageReach s t := .of_eq (s.touch8_storage _)
    have hstore : StorageReach t u := .single (.oam t.storage _ (by omega))
    exact (hread.trans hstore).trans (State.dmaCopy_reach v k (i + 1) u (by omega))

theorem mem_of_lookup_eq_some {α β : Type} [BEq α] [LawfulBEq α] {l : List (α × β)} {k : α} {b : β}
    (h : l.lookup k = some b) : (k, b) ∈ l := by
  obtain ⟨l₁, l₂, rfl, -⟩ := List.lookup_eq_some_iff.1 h
  simp

/-- The wave table has 16 bytes (R651). -/
theorem ioRegAt_wave_lt {a : Word} {i : Nat} (h : ioRegAt a = some (.wave i)) : i < 16 := by
  unfold ioRegAt at h
  dsimp only at h
  split at h
  · cases h; omega
  split at h
  · have hm := mem_of_lookup_eq_some h
    simp [ioTableLow] at hm
  · have hm := mem_of_lookup_eq_some h
    simp [ioTableHigh] at hm

theorem State.ioWrite_reach (s : State) (r : IoReg) (v : Byte) (hr : ∀ i, r = .wave i → i < 16) :
    StorageReach s (s.ioWrite r v) := by
  cases r with
  | nr r => exact .of_eq (by unfold State.ioWrite State.storage; dsimp only; rw [Apu.writeNr_wave])
  | wave i => exact .single (.wave s.storage v (hr i rfl))
  | lcdc => exact .of_eq (s.writeLcdc_storage v)
  | stat => exact .of_eq (ppuBlind_storage.evalStat _)
  | lyc => exact .of_eq (ppuBlind_storage.evalStat _)
  | dma =>
    have hcopy := State.dmaCopy_reach v dmaLen 0 s (by decide)
    rw [State.ioWrite_dma, State.dmaWrite_eq]
    generalize s.dmaCopy v 0 dmaLen = t at hcopy ⊢
    exact hcopy
  | boot =>
    unfold State.ioWrite
    dsimp only
    split
    · exact .single (.unmap s.storage)
    · exact .refl
  | _ => exact .refl

theorem State.write8_reach (s : State) (a : Word) (v : Byte) : StorageReach s (s.write8 a v) := by
  have ha := offsetIn_window s a
  unfold State.write8
  generalize s.window a = w at ha ⊢
  cases w with
  | boot => exact s.cartWrite_reach a v (.inl (Nat.lt_trans (by simpa [offsetIn, Window.base] using ha) (by decide)))
  | cartRom => exact s.cartWrite_reach a v (.inl (by simpa [offsetIn, Window.base, Window.size] using ha))
  | vram => exact .single (.vram s.storage v ha)
  | cartRam => exact s.cartWrite_reach a v (.inr ha)
  | wram => exact .single (.wram s.storage v ha)
  | echo => exact .single (.wram s.storage v (Nat.lt_trans ha (by decide)))
  | oam =>
    dsimp only
    split
    · exact .refl
    · exact .single (.oam s.storage v ha)
  | io =>
    dsimp only
    split
    · rename_i r hr
      exact s.ioWrite_reach r v fun i hi => ioRegAt_wave_lt (hi ▸ hr)
    · exact .refl
  | hram => exact .single (.hram s.storage v ha)
  | _ => exact .refl

/-! ### The host's calls -/

theorem State.saveRequest_reach (s : State) : StorageReach s s.saveRequest := by
  unfold State.saveRequest
  split
  · exact .refl
  · rw [StorageReach, ← s.rtcAdvance_storage]
    exact .single (.save s.rtcAdvance.storage _ _)

theorem State.hostCall_reach (s : State) (c : HostCall) : StorageReach s (s.hostCall c) := by
  cases c with
  | press b =>
    show StorageReach s (s.buttonPress b)
    unfold State.buttonPress
    split <;> exact .refl
  | release b => exact .refl
  | saveRequest => exact s.saveRequest_reach

theorem State.applyCalls_reach : ∀ (cs : List (Nat × HostCall)) (s : State), StorageReach s (State.applyCalls cs s)
  | [], _ => .refl
  | (k, c) :: rest, s => by
    unfold State.applyCalls
    split
    · exact (s.hostCall_reach c).trans (State.applyCalls_reach rest _)
    · exact .refl

/-! ### A step -/

/-- A step changes the storage by stores inside the arrays, save requests and unmapping the overlay, and in no other way. -/
theorem step_storage {s t : State} (ht : stateAfter (step s) = some t) : StorageReach s t := by
  have hP : StepClosed (StorageReach s) :=
    { exec :=
        { regs := fun _ h => h
          cost := fun _ h => h
          touch := fun a h => h.trans (StorageReach.of_eq (State.touch8_storage _ a))
          write := fun a v h => h.trans (State.write8_reach _ a v)
          ime := fun _ h => h
          ei := fun _ h => h
          bug := fun h => h
          fault := fun _ h => h }
      wait := fun _ h => h
      noBug := fun h => h
      iflag := fun _ h => h
      unstall := fun h => h
      host := fun {u} h => h.trans (State.applyCalls_reach u.host.calls u)
      timer := fun n h => h.trans (StorageReach.of_eq (State.timerAdvance_storage _ n))
      ppu := fun n h => h.trans (StorageReach.of_eq (ppuBlind_storage.ppuAdvance n _))
      apu := fun n h => h.trans (StorageReach.of_eq (State.apuAdvance_storage n _)) }
  exact step_closed hP .refl ht

/-! ### Every storage array stays canonical and of its size -/

/-- The invariant `MemInv` as a property of the storage. -/
structure Storage.Fits (m : Storage) : Prop where
  bootImage : m.bootImage.Fits 0x100
  vram : m.vram.Fits 0x2000
  wram : m.wram.Fits 0x2000
  oam : m.oam.Fits 0xA0
  hram : m.hram.Fits 0x7F
  rom : m.rom.Fits m.romSize
  ram : m.ram.Fits (m.ramBanks * 0x2000)
  wave : m.wave.Fits 16
  save : m.save.wf

theorem memInv_iff_storage (s : State) : MemInv s ↔ s.storage.Fits :=
  ⟨fun h => ⟨h.bootImage, h.vram, h.wram, h.oam, h.hram, h.rom, h.ram, h.wave, h.save⟩,
    fun h => ⟨h.bootImage, h.vram, h.wram, h.oam, h.hram, h.rom, h.ram, h.wave, h.save⟩⟩

theorem StorageChange.fits {m n : Storage} (hc : StorageChange m n) (h : m.Fits) : n.Fits := by
  cases hc with
  | vram v hi => exact { h with vram := h.vram.write v hi }
  | wram v hi => exact { h with wram := h.wram.write v hi }
  | oam v hi => exact { h with oam := h.oam.write v hi }
  | hram v hi => exact { h with hram := h.hram.write v hi }
  | ram v hi => exact { h with ram := h.ram.write v hi }
  | wave v hi => exact { h with wave := h.wave.write v hi }
  | save n bs => exact { h with save := Memory.wf_writeAll bs _ n (Memory.wf_splice n h.ram.1 h.save) }
  | unmap => exact { h with }

theorem StorageChanges.fits {m n : Storage} (hr : StorageChanges m n) (h : m.Fits) : n.Fits := by
  induction hr with
  | refl => exact h
  | tail _ hc ih => exact hc.fits ih

/-- Settles O42: a step is a sequence of storage changes, and each keeps the arrays canonical and of their sizes. -/
theorem stepKeepsMemory : Obligations.StepKeepsMemory := by
  intro s t h ht
  exact (memInv_iff_storage t).2 ((step_storage ht).fits ((memInv_iff_storage s).1 h))

end Sys2Proof.Machine

/-!
SUPPORT. The images, the boot overlay and the engine: what no step changes, and what no instruction but those that act on the
engine changes.
-/
namespace Sys2Proof.Machine

/-! ### Addresses of the I/O window -/

theorem State.window_of_io (s : State) {a : Word} (hlo : 0xFF00 ≤ a.toNat) (hhi : a.toNat < 0xFF80) : s.window a = .io := by
  unfold State.window windowOf
  rw [if_neg (by omega), if_neg (by omega), if_neg (by omega), if_neg (by omega), if_neg (by omega), if_neg (by omega),
    if_neg (by omega), if_neg (by omega), if_pos hhi]

/-- The address is mapped to the register `r` (spec/10_state.md R46). -/
abbrev MapsTo (a : Word) (r : IoReg) : Prop := (0xFF00 ≤ a.toNat ∧ a.toNat < 0xFF80) ∧ ioRegAt a = some r

theorem State.read8_of_mapsTo (s : State) {a : Word} {r : IoReg} (h : MapsTo a r) : s.read8 a = s.ioRead r := by
  unfold State.read8
  rw [s.window_of_io h.1.1 h.1.2]
  dsimp only
  rw [h.2]

theorem State.write8_of_mapsTo (s : State) {a : Word} {r : IoReg} (v : Byte) (h : MapsTo a r) :
    s.write8 a v = s.ioWrite r v := by
  unfold State.write8
  rw [s.window_of_io h.1.1 h.1.2]
  dsimp only
  rw [h.2]

/-! ### Images and overlay -/

/-- `n` has the images, the sizes and the parameters of `m`, and no overlay that `m` has not. -/
structure Storage.SameImages (m n : Storage) : Prop where
  rom : n.rom = m.rom
  romSize : n.romSize = m.romSize
  kind : n.kind = m.kind
  romBanks : n.romBanks = m.romBanks
  ramBanks : n.ramBanks = m.ramBanks
  bootImage : n.bootImage = m.bootImage
  par : n.par = m.par
  overlay : m.bootMapped = false → n.bootMapped = false

theorem StorageChange.sameImages {m n p : Storage} (hc : StorageChange n p) (h : m.SameImages n) : m.SameImages p := by
  cases hc with
  | unmap => exact { h with overlay := fun _ => rfl }
  | _ => exact { h with }

theorem StorageChanges.sameImages {m n : Storage} (hr : StorageChanges m n) : m.SameImages n := by
  induction hr with
  | refl => exact ⟨rfl, rfl, rfl, rfl, rfl, rfl, rfl, id⟩
  | tail _ hc ih => exact hc.sameImages ih

theorem State.window_of_overlay {s : State} {a : Word} (hb : s.bootMapped = true) (ha : a.toNat < 0x0100) :
    s.window a = .boot := by
  unfold State.window windowOf
  rw [if_pos ⟨hb, ha⟩]

/-- Settles O40: the storage changes of a step leave the images and only ever unmap the overlay; the overlay and its port by
the decoder. -/
theorem imagesStayAndOverlayIsOneWay : Obligations.ImagesStayAndOverlayIsOneWay := by
  refine ⟨fun s t ht => ?_, fun s a hb ha => ?_, fun s v => ?_⟩
  · have h := (step_storage ht).sameImages
    exact ⟨h.rom, h.romSize, h.kind, h.romBanks, h.ramBanks, h.bootImage, h.par, h.overlay⟩
  · have hw := State.window_of_overlay hb ha
    exact ⟨by unfold State.read8; rw [hw], by unfold State.touch8; rw [hw]⟩
  · have hport : MapsTo 0xFF50 .boot := by decide
    exact ⟨s.read8_of_mapsTo hport, s.write8_of_mapsTo v hport⟩

/-! ### The engine -/

/-- `t` has the engine state, the boot image and the parameters of `s`. -/
structure SameEngine (s t : State) : Prop where
  ime : t.ime = s.ime
  halted : t.halted = s.halted
  haltBug : t.haltBug = s.haltBug
  eiPending : t.eiPending = s.eiPending
  fault : t.fault = s.fault
  bootImage : t.bootImage = s.bootImage
  par : t.par = s.par

/-- Register changes, reads and stores leave the engine. -/
theorem execPlain_sameEngine (s : State) : ExecPlain (SameEngine s) where
  regs _ h := { h with }
  cost _ h := { h with }
  touch a h := by cases h; constructor <;> simpa
  write a v h := by cases h; constructor <;> simpa

/-- Settles O34: every instruction that does not act on the engine is made of register changes, reads and stores. -/
theorem onlyEngineInstructionsChangeTheEngine : Obligations.OnlyEngineInstructionsChangeTheEngine := by
  intro i s t hi ht
  have h := exec_plain (execPlain_sameEngine s) ⟨rfl, rfl, rfl, rfl, rfl, rfl, rfl⟩ hi ht
  exact ⟨h.ime, h.halted, h.haltBug, h.eiPending, h.fault, h.bootImage, h.par⟩

/-! ### The register file -/

/-- A write of `F` keeps `v & 0xF0` (R24). -/
theorem Flags.toByte_ofByte (v : Byte) : (Flags.ofByte v).toByte = v &&& 0xF0 := by
  apply BitVec.eq_of_getLsbD_eq
  intro i hi
  simp only [Flags.toByte, Flags.ofByte, BitVec.getLsbD_append, BitVec.getLsbD_and]
  match i, hi with
  | 0, _ | 1, _ | 2, _ | 3, _ | 4, _ | 5, _ | 6, _ | 7, _ => simp
  | n + 8, h => omega

/-- Masking the low byte of a word masks the word. -/
theorem pairOf_hiByte_masked (v : Word) : pairOf (hiByte v) (loByte v &&& 0xF0) = v &&& 0xFFF0 :=
  calc pairOf (hiByte v) (loByte v &&& 0xF0)
    _ = pairOf (hiByte v &&& BitVec.allOnes 8) (loByte v &&& 0xF0) := by rw [BitVec.and_allOnes]
    _ = pairOf (hiByte v) (loByte v) &&& pairOf (BitVec.allOnes 8) 0xF0 := (BitVec.and_append ..).symm
    _ = v &&& 0xFFF0 := by rw [pairOf_halves]; rfl

theorem Regs.getPair_setPair_eq (r : Regs) (p q : Pair) (v : Word) :
    (r.setPair p v).getPair q = if q = p then v else r.getPair q := by
  cases p with
  | bc => cases q with
    | bc => exact pairOf_halves v
    | _ => rfl
  | de => cases q with
    | de => exact pairOf_halves v
    | _ => rfl
  | hl => cases q with
    | hl => exact pairOf_halves v
    | _ => rfl
  | sp => cases q <;> rfl

theorem Regs.af_setStack (r : Regs) (v : Word) : (r.setStack .af v).af = v &&& 0xFFF0 := by
  show pairOf (hiByte v) (Flags.ofByte (loByte v)).toByte = v &&& 0xFFF0
  rw [Flags.toByte_ofByte, pairOf_hiByte_masked]

theorem Regs.getStack_setStack_eq (r : Regs) (p q : StackPair) (v : Word) :
    (r.setStack p v).getStack q = if q = p then (if p = .af then v &&& 0xFFF0 else v) else r.getStack q := by
  cases p with
  | bc => cases q with
    | bc => exact pairOf_halves v
    | _ => rfl
  | de => cases q with
    | de => exact pairOf_halves v
    | _ => rfl
  | hl => cases q with
    | hl => exact pairOf_halves v
    | _ => rfl
  | af => cases q with
    | af => exact r.af_setStack v
    | _ => rfl

/-- Settles O5, by the read-after-write laws of the register file. -/
theorem registersReadBack : Obligations.RegistersReadBack :=
  ⟨Regs.get8_set8, fun r x v => ⟨r.set8_f x v, r.set8_sp x v, r.set8_pc x v⟩, Regs.getPair_setPair_eq,
    Regs.getStack_setStack_eq, fun r p v => ⟨r.setPair_a p v, r.setPair_f p v, r.setPair_pc p v⟩,
    fun _ => ⟨rfl, rfl, rfl, rfl⟩, fun f => ⟨f.toByte_low, f.ofByte_toByte⟩, Flags.toByte_ofByte⟩

/-! ### Reset -/

theorem Memory.fits_nil (n : Nat) : Memory.Fits [] n := ⟨⟨.nil, by simp⟩, by simp⟩

theorem memInv_reset : MemInv State.reset where
  bootImage := Memory.fits_nil _
  vram := Memory.fits_nil _
  wram := Memory.fits_nil _
  oam := Memory.fits_nil _
  hram := Memory.fits_nil _
  rom := Memory.fits_nil _
  ram := Memory.fits_nil _
  wave := Memory.fits_nil _
  save := (Memory.fits_nil 0).1

theorem scanInv_reset : ScanInv State.reset where
  off _ := ⟨rfl, rfl, rfl, rfl, rfl⟩
  clock := by decide
  line := by decide
  blank h := absurd h (by decide)
  level h := absurd h (by decide)

theorem bufferInv_reset : BufferInv State.reset where
  sprites := List.length_replicate
  bgIdx := List.length_replicate
  objDrawn := List.length_replicate
  lines := List.length_replicate
  columns row h := by rw [List.eq_of_mem_replicate h, List.length_replicate]

theorem apuInv_reset : ApuInv State.reset where
  seqClock := by decide
  sampleLow := Nat.le_add_left 1 _
  sampleHigh := Nat.le_refl _
  len1 := Nat.zero_le _
  len2 := Nat.zero_le _
  len3 := Nat.zero_le _
  len4 := Nat.zero_le _
  ftimer1 := Nat.zero_le _
  ftimer2 := Nat.zero_le _
  ftimer3 := Nat.zero_le _
  ftimer4 := Nat.zero_le _
  sweepTimer := Nat.zero_le _
  off _ := ⟨rfl, rfl, rfl, rfl, rfl, rfl, rfl⟩

/-- Settles O41, part by part of the invariant. -/
theorem resetMeetsTheInvariant : Obligations.ResetMeetsTheInvariant where
  mem := memInv_reset
  timer := by decide
  cart := ⟨Nat.le_refl _, rfl⟩
  scan := scanInv_reset
  buffers := bufferInv_reset
  apu := apuInv_reset
  engine := ⟨.inl rfl, fun h => absurd rfl h⟩

end Sys2Proof.Machine

/-!
SUPPORT. The ports of the timer, the serial stub and the two interrupt masks, and what the peripherals leave of the serial
stub.
-/
namespace Sys2Proof.Machine

/-! ### The ports -/

/-- `TIMER_PERIOD` by the value of `TAC[1:0]` (R453). -/
theorem Timer.period_eq (t : Timer) :
    t.period = if t.tac.extractLsb' 0 2 = 0#2 then 1024 else if t.tac.extractLsb' 0 2 = 1#2 then 16
      else if t.tac.extractLsb' 0 2 = 2#2 then 64 else 256 := by
  unfold Timer.period
  generalize t.tac = tac
  revert tac
  decide

theorem Timer.readTac_eq (t : Timer) : t.readTac = 0xF8 ||| t.tac.setWidth 8 := by
  unfold Timer.readTac
  generalize t.tac = tac
  revert tac
  decide

/-- `tsub` reduced modulo a period it is below stays (R453). -/
theorem Timer.writeTac_eq (t : Timer) (v : Byte) :
    let period : Nat := if v.extractLsb' 0 2 = 0#2 then 1024 else if v.extractLsb' 0 2 = 1#2 then 16
      else if v.extractLsb' 0 2 = 2#2 then 64 else 256
    t.writeTac v = { t with tac := v.extractLsb' 0 3, tsub := if t.tsub < period then t.tsub else t.tsub % period } := by
  have htac : v.setWidth 3 = v.extractLsb' 0 3 := BitVec.setWidth_eq_extractLsb' (by decide)
  have hsel : (v.extractLsb' 0 3).extractLsb' 0 2 = v.extractLsb' 0 2 := by
    apply BitVec.eq_of_getLsbD_eq
    intro i hi
    simp only [BitVec.getLsbD_extractLsb', Nat.zero_add]
    rw [decide_eq_true (show i < 3 by omega), Bool.true_and]
  intro period
  have hperiod : ({ t with tac := v.extractLsb' 0 3 } : Timer).period = period := by
    rw [Timer.period_eq, hsel]
  unfold Timer.writeTac
  dsimp only
  rw [htac, hperiod]
  split
  · rw [Nat.mod_eq_of_lt ‹_›]
  · rfl

theorem Serial.readSc_eq (p : Serial) :
    p.readSc = 0x7E ||| (if p.sc7 then 0x80 else 0x00) ||| (if p.sc0 then 0x01 else 0x00) := by
  unfold Serial.readSc
  cases p.sc7 <;> cases p.sc0 <;> rfl

theorem State.readIf_eq (s : State) : s.readIf = 0xE0 ||| s.iflag.setWidth 8 := by
  unfold State.readIf
  generalize s.iflag = f
  revert f
  decide

theorem State.writeIf_eq (s : State) (v : Byte) : s.writeIf v = { s with iflag := v.extractLsb' 0 5 } := by
  unfold State.writeIf
  rw [BitVec.setWidth_eq_extractLsb' (by decide)]

theorem State.window_ie (s : State) : s.window 0xFFFF = .ie := by
  unfold State.window
  cases s.bootMapped <;> rfl

/-! ### The serial stub -/

/-- The serial request and the serial port. -/
def State.serialPart (s : State) : Bool × Serial := (s.iflag.getLsbD 3, s.serial)

theorem State.requestInterrupt_serialPart (s : State) {i : IntSource} (h : i ≠ .serial) :
    (s.requestInterrupt i).serialPart = s.serialPart := by
  have hbit : i.bit.getLsbD 3 = false := by
    cases i with
    | serial => exact absurd rfl h
    | _ => rfl
  simp only [State.serialPart, State.requestInterrupt_iflag, State.requestInterrupt_serial, BitVec.getLsbD_or, hbit,
    Bool.or_false]

theorem ppuBlind_serialPart : PpuBlind State.serialPart where
  ppu _ _ := rfl
  stat s := s.requestInterrupt_serialPart (by decide)
  vBlank s := s.requestInterrupt_serialPart (by decide)
  frameReady _ _ := rfl

theorem State.timerAdvance_serialPart (s : State) (n : Nat) : (s.timerAdvance n).serialPart = s.serialPart := by
  unfold State.timerAdvance State.timerReload
  dsimp only
  split
  · exact s.requestInterrupt_serialPart (i := .timer) (by decide)
  · rfl

/-- The audio processor changes its own state and the record of its samples. -/
theorem State.apuAdvance_eq : ∀ (n : Nat) (s : State), ∃ a h, s.apuAdvance n = { s with apu := a, host := h }
  | 0, s => ⟨s.apu, s.host, rfl⟩
  | n + 1, s => by
    obtain ⟨a, h, he⟩ := State.apuAdvance_eq n s.apuCycle
    exact ⟨a, h, he⟩

/-- Settles O48, port by port through the I/O table. -/
theorem timerSerialAndMaskPorts : Obligations.TimerSerialAndMaskPorts := by
  refine ⟨fun s v => ?_, fun s n => ?_⟩
  · have hdiv : MapsTo 0xFF04 .div := by decide
    have htima : MapsTo 0xFF05 .tima := by decide
    have htma : MapsTo 0xFF06 .tma := by decide
    have htac : MapsTo 0xFF07 .tac := by decide
    have hsb : MapsTo 0xFF01 .sb := by decide
    have hsc : MapsTo 0xFF02 .sc := by decide
    have hif : MapsTo 0xFF0F .iflag := by decide
    refine ⟨s.read8_of_mapsTo hdiv, s.write8_of_mapsTo v hdiv, s.read8_of_mapsTo htima, s.write8_of_mapsTo v htima,
      s.read8_of_mapsTo htma, s.write8_of_mapsTo v htma, (s.read8_of_mapsTo htac).trans s.timer.readTac_eq, ?_,
      s.read8_of_mapsTo hsb, s.write8_of_mapsTo v hsb, (s.read8_of_mapsTo hsc).trans s.serial.readSc_eq,
      s.write8_of_mapsTo v hsc, ?_, ?_, (s.read8_of_mapsTo hif).trans s.readIf_eq,
      (s.write8_of_mapsTo v hif).trans (s.writeIf_eq v)⟩
    · rw [s.write8_of_mapsTo v htac]
      exact congrArg (fun t => { s with timer := t }) (s.timer.writeTac_eq v)
    · unfold State.read8
      rw [s.window_ie]
    · unfold State.write8
      rw [s.window_ie]
  · obtain ⟨htf, hts⟩ := Prod.ext_iff.1 (s.timerAdvance_serialPart n)
    obtain ⟨hpf, hps⟩ := Prod.ext_iff.1 (ppuBlind_serialPart.ppuAdvance n s)
    obtain ⟨a, h, he⟩ := State.apuAdvance_eq n s
    exact ⟨htf, hpf, by rw [he], hts, hps, by rw [he]⟩

end Sys2Proof.Machine

/-!
SUPPORT. Construction: the two profiles over one common state, and the loading of save data.
-/
namespace Sys2Proof.Machine

/-! ### Loading save data -/

theorem loadedRam_nil (size : Nat) : loadedRam [] size = [] := by
  unfold loadedRam
  split
  · rw [List.take_nil]
    rfl
  · rfl

theorem loadedRam_short {save : List Byte} {size : Nat} (h : save.length < size) : loadedRam save size = [] := by
  unfold loadedRam
  rw [if_neg (by omega)]

theorem loadedRam_read {save : List Byte} {size : Nat} (h : size ≤ save.length) (i : Nat) :
    (loadedRam save size).read i = if i < size then save.getD i 0 else 0 := by
  unfold loadedRam
  rw [if_pos h, Memory.read_ofBytes, List.getD_eq_getElem?_getD, List.getElem?_take, List.getD_eq_getElem?_getD]
  split <;> rfl

theorem loadedRtc_nil (size : Nat) (layout : List RtcSaveByte) : loadedRtc [] size layout = .zero := by
  unfold loadedRtc
  split
  · rename_i h
    have hlayout : layout = [] := List.eq_nil_of_length_eq_zero (by simp only [List.length_nil] at h; omega)
    rw [hlayout]
    rfl
  · rfl

theorem loadedRtc_short {save : List Byte} {size : Nat} {layout : List RtcSaveByte}
    (h : save.length < size + layout.length) : loadedRtc save size layout = .zero := by
  unfold loadedRtc
  rw [if_neg (by omega)]

/-- The default layout: the five registers behind the RAM, each through its mask (R526, R540, R542). -/
theorem loadedRtc_default {save : List Byte} {size : Nat} (h : size + Params.default.rtcSaveLayout.length ≤ save.length) :
    loadedRtc save size Params.default.rtcSaveLayout
      = { s := (save.getD (size + 0) 0).extractLsb' 0 6, m := (save.getD (size + 1) 0).extractLsb' 0 6,
          h := (save.getD (size + 2) 0).extractLsb' 0 5, dl := save.getD (size + 3) 0,
          day8 := (save.getD (size + 4) 0).getLsbD 0, halt := (save.getD (size + 4) 0).getLsbD 6,
          carry := (save.getD (size + 4) 0).getLsbD 7 } := by
  have h6 : ∀ v : Byte, v.setWidth 6 = v.extractLsb' 0 6 := fun v => BitVec.setWidth_eq_extractLsb' (by decide)
  have h5 : ∀ v : Byte, v.setWidth 5 = v.extractLsb' 0 5 := fun v => BitVec.setWidth_eq_extractLsb' (by decide)
  unfold loadedRtc
  rw [if_pos h]
  simp only [Params.default, Rtc.deserialize, Rtc.loadByte, Rtc.set, Rtc.setDh, Memory.read_ofBytes, h6, h5]
  rfl

/-! ### The cartridge -/

theorem Cart.construct_romOnly {a : ConstructArgs} (h : (Cart.construct a).kind = .romOnly) :
    (Cart.construct a).ram = [] ∧ (Cart.construct a).rtc = .zero := by
  have hk : kindOfType (headerByte a.rom 0x0147) = .romOnly := h
  unfold Cart.construct
  dsimp only
  rw [hk]
  exact ⟨rfl, rfl⟩

theorem Cart.construct_mbc3Rtc {a : ConstructArgs} (h : (Cart.construct a).kind = .mbc3Rtc) :
    (Cart.construct a).ram = loadedRam (a.save.getD []) ((Cart.construct a).ramBanks * 0x2000)
    ∧ (Cart.construct a).rtc
        = loadedRtc (a.save.getD []) ((Cart.construct a).ramBanks * 0x2000) a.par.rtcSaveLayout := by
  have hk : kindOfType (headerByte a.rom 0x0147) = .mbc3Rtc := h
  unfold Cart.construct
  dsimp only
  rw [hk]
  exact ⟨rfl, rfl⟩

theorem Cart.construct_noSave {a : ConstructArgs} (h : a.save = none) :
    (Cart.construct a).ram = [] ∧ (Cart.construct a).rtc = .zero := by
  cases hk : (Cart.construct a).kind with
  | romOnly => exact Cart.construct_romOnly hk
  | mbc3Rtc =>
    obtain ⟨hram, hrtc⟩ := Cart.construct_mbc3Rtc hk
    rw [hram, hrtc, h]
    exact ⟨loadedRam_nil _, loadedRtc_nil _ _⟩

/-! ### The two profiles -/

/-- Construction before the profile: what both have in common, at the values of `overlay`. -/
def State.constructed (a : ConstructArgs) : State :=
  { State.reset with
    bootImage := Memory.ofBytes (a.bootImage.take 0x100)
    cart := Cart.construct a
    apu := { State.reset.apu with sampleClock := a.par.samplePeriodPred + 1 }
    par := a.par
    host := { State.reset.host with
      now := a.now
      calls := a.calls
      save := Memory.ofBytes (a.save.getD [])
      saveSize := (a.save.getD []).length } }

theorem State.construct_overlay {a : ConstructArgs} (h : a.par.boot = .overlay) :
    State.construct a = State.constructed a := by
  unfold State.construct
  rw [h]
  rfl

theorem State.construct_skip {a : ConstructArgs} (h : a.par.boot = .skip) :
    State.construct a = (State.constructed a).skipBoot := by
  unfold State.construct
  rw [h]
  rfl

theorem State.construct_profiles (a : ConstructArgs) :
    State.construct a = State.constructed a ∨ State.construct a = (State.constructed a).skipBoot := by
  cases h : a.par.boot with
  | overlay => exact .inl (State.construct_overlay h)
  | skip => exact .inr (State.construct_skip h)

theorem State.construct_cart (a : ConstructArgs) : (State.construct a).cart = Cart.construct a := by
  rcases State.construct_profiles a with h | h <;> rw [h] <;> rfl

theorem State.construct_input (a : ConstructArgs) : (State.construct a).input = State.reset.input := by
  rcases State.construct_profiles a with h | h <;> rw [h] <;> rfl

theorem State.construct_serial (a : ConstructArgs) : (State.construct a).serial = State.reset.serial := by
  rcases State.construct_profiles a with h | h <;> rw [h] <;> rfl

theorem Input.pressed_reset (b : Button) : State.reset.input.pressed b = false := by
  cases b <;> rfl

/-- Settles O60: the tables hold of both profiles as they stand in the definitions; the save data by the laws of loading. -/
theorem constructionTables : Obligations.ConstructionTables := by
  intro a s size whole
  have hprofiles : s = State.constructed a ∨ s = (State.constructed a).skipBoot := State.construct_profiles a
  have hcart : s.cart = Cart.construct a := State.construct_cart a
  have hinput : s.input = State.reset.input := State.construct_input a
  have hserial : s.serial = State.reset.serial := State.construct_serial a
  refine ⟨?cpu, ?memories, ?timer, ⟨?sel, fun b => ?pressed, ?sb, ?sc⟩, ?ppu, ?apu,
    ⟨rfl, rfl, rfl, rfl, rfl, rfl, rfl⟩, ?latches, fun h => ?overlay, fun h => ?skip, fun h => ?blank,
    fun bytes hsave hkind => ?loaded⟩
  case cpu => rcases hprofiles with h | h <;> rw [h] <;> exact ⟨rfl, rfl, rfl, rfl, rfl, rfl, rfl⟩
  case memories => rcases hprofiles with h | h <;> rw [h] <;> exact ⟨rfl, rfl, rfl, rfl, rfl⟩
  case timer => rcases hprofiles with h | h <;> rw [h] <;> exact ⟨rfl, rfl, rfl, rfl, rfl⟩
  case sel => rw [hinput]; rfl
  case pressed => rw [hinput]; exact Input.pressed_reset b
  case sb => rw [hserial]; rfl
  case sc =>
    rw [s.read8_of_mapsTo (r := .sc) (by decide)]
    show s.serial.readSc = 0x7E
    rw [hserial]
    rfl
  case ppu =>
    rcases hprofiles with h | h <;> rw [h]
    · exact ⟨0x00, .hBlank, rfl⟩
    · exact ⟨0x91, .oamScan, rfl⟩
  case apu =>
    rcases hprofiles with h | h <;> rw [h]
    · exact ⟨false, 0x00, 0x00, rfl⟩
    · exact ⟨true, 0x77, 0xF3, rfl⟩
  case latches =>
    rw [hcart]
    exact ⟨rfl, rfl, rfl, rfl, rfl, rfl, rfl⟩
  case overlay =>
    rw [show s = _ from State.construct_overlay h]
    exact ⟨rfl, rfl, rfl, rfl, rfl, rfl, rfl, rfl, rfl⟩
  case skip =>
    rw [show s = _ from State.construct_skip h]
    exact ⟨rfl, rfl, rfl, rfl, rfl, rfl, rfl, rfl, rfl⟩
  case blank =>
    rw [hcart] at h ⊢
    exact h.elim Cart.construct_noSave Cart.construct_romOnly
  case loaded =>
    rw [hcart] at hkind
    obtain ⟨hram, hrtc⟩ := Cart.construct_mbc3Rtc hkind
    rw [hsave, Option.getD_some, ← hcart] at hram hrtc
    refine ⟨fun h i => ?_, fun h => ?_, fun h => ?_, fun h hlayout => ?_⟩
    · rw [hram]
      exact loadedRam_read h i
    · rw [hram]
      exact loadedRam_short h
    · rw [hrtc]
      exact loadedRtc_short h
    · rw [hlayout] at hrtc
      rw [hrtc]
      exact loadedRtc_default (hlayout ▸ h)

end Sys2Proof.Machine

/-!
SUPPORT. Memory accesses: what a read can move, where the addresses of each window lie, what a store to a storage array
leaves to be read, and the DMA copy.
-/
namespace Sys2Proof.Machine

/-! ### What a read moves -/

/-- The state with another live clock and anchor, and another record of the host's clock: all that a read can move (R113). -/
def State.withClock (s : State) (now reads anchor : Nat) (r : Rtc) : State :=
  { s with
    host := { s.host with now := now, nowReads := reads }
    cart := { s.cart with rtc := r, rtcAnchor := anchor } }

theorem Cart.advanceTo_eq (c : Cart) (n : Nat) : ∃ r anchor, c.advanceTo n = { c with rtc := r, rtcAnchor := anchor } := by
  unfold Cart.advanceTo
  split
  · exact ⟨c.rtc, c.rtcAnchor, rfl⟩
  · exact ⟨_, _, rfl⟩

theorem State.touch8_eq_withClock (s : State) (a : Word) :
    ∃ now reads anchor r, s.touch8 a = s.withClock now reads anchor r := by
  rcases s.touch8_cases a with h | h <;> rw [h]
  · exact ⟨s.host.now, s.host.nowReads, s.cart.rtcAnchor, s.cart.rtc, rfl⟩
  · obtain ⟨r, anchor, hadvance⟩ := s.cart.advanceTo_eq s.nextNow
    refine ⟨s.nextNow, s.host.nowReads + 1, anchor, r, ?_⟩
    unfold State.rtcAdvance
    rw [hadvance]
    rfl

/-- The numbers of the clock registers are 8 to 12 (R508). -/
theorem rtcSelected_eq_none : ∀ n : BitVec 4, ¬ (8 ≤ n.toNat ∧ n.toNat ≤ 12) → rtcSelected n = none := by decide

theorem Cart.ramTarget_clock {c : Cart} {a : Word} {f : RtcField} (h : c.ramTarget a = .clock f) :
    c.kind = .mbc3Rtc ∧ c.ramEnable = true ∧ 8 ≤ c.ramSel.toNat ∧ c.ramSel.toNat ≤ 12 := by
  unfold Cart.ramTarget at h
  split at h
  · cases h
  rename_i hkind
  split at h
  · cases h
  rename_i henable
  split at h
  · split at h <;> cases h
  split at h
  · rename_i hsel
    refine ⟨hkind, by simpa using henable, Decidable.byContradiction fun hbounds => ?_⟩
    rw [rtcSelected_eq_none _ hbounds] at hsel
    cases hsel
  · cases h

/-- A read that changes the state reaches a clock register (R527). -/
theorem State.clock_of_touch8_ne {s : State} {a : Word} (h : s.touch8 a ≠ s) :
    s.window a = .cartRam ∧ ∃ f, s.cart.ramTarget a = .clock f := by
  unfold State.touch8 at h
  split at h
  · rename_i hw
    unfold State.cartTouch at h
    split at h
    · rename_i f hf
      exact ⟨hw, f, hf⟩
    · exact absurd rfl h
  · exact absurd rfl h

/-! ### Windows and their addresses -/

/-- An address lies between the bounds of its window (R81). -/
theorem State.bounds_of_window {s : State} {a : Word} {w : Window} (h : s.window a = w) :
    w.base.toNat ≤ a.toNat ∧ a.toNat < w.base.toNat + w.size := by
  have hlt : offsetIn a w.base < w.size := h ▸ offsetIn_window s a
  unfold offsetIn at hlt
  cases w <;>
  · simp only [Window.base, Window.size] at hlt ⊢
    bv_omega

/-- Above the cartridge image two windows share no address: the overlay covers only the image. -/
theorem Window.disjoint {w u : Window} (hne : w ≠ u) (hw : 0x8000 ≤ w.base.toNat) :
    w.base.toNat + w.size ≤ u.base.toNat ∨ u.base.toNat + u.size ≤ w.base.toNat := by
  revert hne hw
  cases w <;> cases u <;> decide

theorem State.window_of_bounds (s : State) {a : Word} {w : Window} (hw : 0x8000 ≤ w.base.toNat)
    (hlo : w.base.toNat ≤ a.toNat) (hhi : a.toNat < w.base.toNat + w.size) : s.window a = w := by
  obtain ⟨hlo', hhi'⟩ := s.bounds_of_window (a := a) rfl
  refine Decidable.byContradiction fun hne => ?_
  have hdisjoint := Window.disjoint (Ne.symm hne) hw
  omega

theorem offsetIn_of_le {a base : Word} (h : base.toNat ≤ a.toNat) : offsetIn a base = a.toNat - base.toNat :=
  BitVec.toNat_sub_of_le h

/-- Settles O36: a read leaves the state or advances the clock, and no byte depends on the clock. -/
theorem readsChangeOnlyTheClock : Obligations.ReadsChangeOnlyTheClock := by
  intro s a
  refine ⟨fun hclock => Decidable.byContradiction fun hne => ?_, s.touch8_eq_withClock a, s.touch8_read8 a⟩
  obtain ⟨hw, f, hf⟩ := State.clock_of_touch8_ne hne
  obtain ⟨hlo, hhi⟩ := State.bounds_of_window hw
  exact hclock ⟨hlo, hhi, Cart.ramTarget_clock hf⟩

/-! ### Locked and unmapped addresses -/

theorem Ppu.oamLocked_iff (p : Ppu) :
    p.oamLocked = true ↔ p.lcdc.getLsbD 7 = true ∧ (p.mode = .oamScan ∨ p.mode = .transfer) := by
  simp [Ppu.oamLocked, Ppu.on, Ppu.lcdcBit]

theorem State.read8_oam {s : State} {a : Word} (h : s.window a = .oam) :
    s.read8 a = if s.ppu.oamLocked then 0xFF else s.oam.read (a.toNat - 0xFE00) := by
  unfold State.read8
  rw [h]
  dsimp only
  rw [offsetIn_of_le (base := 0xFE00) (State.bounds_of_window h).1]
  rfl

theorem State.write8_oam {s : State} {a : Word} (v : Byte) (h : s.window a = .oam) :
    s.write8 a v = if s.ppu.oamLocked then s else { s with oam := s.oam.write (a.toNat - 0xFE00) v } := by
  unfold State.write8
  rw [h]
  dsimp only
  rw [offsetIn_of_le (base := 0xFE00) (State.bounds_of_window h).1]
  rfl

/-- The addresses of the I/O window with no register (R97). -/
abbrev UnmappedPort (a : Word) : Prop :=
  a = 0xFF03 ∨ (0xFF08 ≤ a.toNat ∧ a.toNat ≤ 0xFF0E) ∨ a = 0xFF15 ∨ a = 0xFF1F ∨ (0xFF27 ≤ a.toNat ∧ a.toNat ≤ 0xFF2F)
    ∨ (0xFF4C ≤ a.toNat ∧ a.toNat ≤ 0xFF4F) ∨ (0xFF51 ≤ a.toNat ∧ a.toNat ≤ 0xFF7F)

theorem UnmappedPort.bounds {a : Word} (h : UnmappedPort a) : 0xFF00 ≤ a.toNat ∧ a.toNat < 0xFF80 := by
  unfold UnmappedPort at h
  bv_omega

/-- The low byte of an unmapped port is no key of the two tables. -/
theorem ioRegAt_unmappedPort {a : Word} (h : UnmappedPort a) : ioRegAt a = none := by
  have hk : (loByte a).toNat = a.toNat - 0xFF00 := by
    have := h.bounds
    simp only [loByte, BitVec.extractLsb'_toNat, Nat.shiftRight_zero]
    omega
  unfold ioRegAt
  dsimp only
  unfold UnmappedPort at h
  rw [hk, if_neg (by bv_omega)]
  split
  · rw [List.lookup_eq_none_iff]
    simp only [ioTableLow, List.mem_cons, List.not_mem_nil, or_false, bne_iff_ne, ne_eq, forall_eq_or_imp, forall_eq]
    bv_omega
  · rw [List.lookup_eq_none_iff]
    simp only [ioTableHigh, List.mem_cons, List.not_mem_nil, or_false, bne_iff_ne, ne_eq, forall_eq_or_imp, forall_eq]
    bv_omega

/-- Reserved or unmapped: such an address reads `OPEN_BUS` and ignores writes (R94, R97). -/
theorem State.openBus_of_unmapped (s : State) {a : Word} (v : Byte)
    (h : (0xFEA0 ≤ a.toNat ∧ a.toNat < 0xFF00) ∨ UnmappedPort a) :
    s.read8 a = 0xFF ∧ s.write8 a v = s := by
  unfold State.read8 State.write8
  rcases h with ⟨hlo, hhi⟩ | h
  · rw [s.window_of_bounds (w := .reserved) (by decide) hlo hhi]
    exact ⟨rfl, rfl⟩
  · rw [s.window_of_io h.bounds.1 h.bounds.2]
    dsimp only
    rw [ioRegAt_unmappedPort h]
    exact ⟨rfl, rfl⟩

/-- Settles O38, by the windows and the I/O table. -/
theorem lockedAndUnmappedAddresses : Obligations.LockedAndUnmappedAddresses := by
  intro s a v
  refine ⟨fun hlo hhi => ?_, s.openBus_of_unmapped v⟩
  have hw : s.window a = .oam := s.window_of_bounds (by decide) hlo hhi
  rw [← s.ppu.oamLocked_iff, State.read8_oam hw, State.write8_oam v hw]
  exact ⟨fun h => ⟨if_pos h, if_pos h⟩, fun h => ⟨if_neg h, if_neg h⟩⟩

/-! ### Stores to a storage array -/

theorem Memory.read_write_self {m : Memory} (hm : m.wf) (i : Nat) (v : Byte) : (m.write i v).read i = v := by
  rw [Memory.read_write m i i v hm, if_pos rfl]

theorem Memory.read_write_ne {m : Memory} (hm : m.wf) {i j : Nat} (v : Byte) (h : j ≠ i) :
    (m.write i v).read j = m.read j := by
  rw [Memory.read_write m i j v hm, if_neg h]

/-- Two states that differ in their four arrays alone read alike at an address whose own cell is the same in both. -/
theorem State.read8_withArrays {s : State} {b : Word} {vram wram oam hram : Memory}
    (hvram : s.window b = .vram → vram.read (offsetIn b 0x8000) = s.vram.read (offsetIn b 0x8000))
    (hwram : s.window b = .wram → wram.read (offsetIn b 0xC000) = s.wram.read (offsetIn b 0xC000))
    (hecho : s.window b = .echo → wram.read (offsetIn b 0xE000) = s.wram.read (offsetIn b 0xE000))
    (hoam : s.window b = .oam → oam.read (offsetIn b 0xFE00) = s.oam.read (offsetIn b 0xFE00))
    (hhram : s.window b = .hram → hram.read (offsetIn b 0xFF80) = s.hram.read (offsetIn b 0xFF80)) :
    { s with vram := vram, wram := wram, oam := oam, hram := hram }.read8 b = s.read8 b := by
  have hw : { s with vram := vram, wram := wram, oam := oam, hram := hram }.window b = s.window b := rfl
  unfold State.read8
  rw [hw]
  cases h : s.window b with
  | vram => exact hvram h
  | wram => exact hwram h
  | echo => exact hecho h
  | oam => dsimp only; rw [hoam h]
  | hram => exact hhram h
  | io =>
    dsimp only
    cases ioRegAt b with
    | none => rfl
    | some r => cases r <;> rfl
  | _ => rfl

/-- Where the cells of a window start: those of the echo are work RAM's (R92). -/
def Window.cells : Window → Word
  | .echo => 0xC000
  | w => w.base

theorem ramCell_of_window {s : State} {b : Word} {w : Window} (h : s.window b = w) :
    (ramCell b).toNat = w.cells.toNat + offsetIn b w.base := by
  obtain ⟨hlo, hhi⟩ := State.bounds_of_window h
  rw [offsetIn_of_le hlo]
  unfold ramCell
  cases w <;>
  · simp only [Window.cells, Window.base, Window.size] at hlo hhi ⊢
    split <;> bv_omega

theorem State.read8_vram (s : State) {b : Word} (hlo : 0x8000 ≤ b.toNat) (hhi : b.toNat < 0xA000) :
    s.read8 b = s.vram.read (b.toNat - 0x8000) := by
  unfold State.read8
  rw [s.window_of_bounds (w := .vram) (by decide) hlo hhi]
  exact congrArg s.vram.read (offsetIn_of_le (base := 0x8000) hlo)

theorem State.read8_wram (s : State) {b : Word} (hlo : 0xC000 ≤ b.toNat) (hhi : b.toNat < 0xE000) :
    s.read8 b = s.wram.read (b.toNat - 0xC000) := by
  unfold State.read8
  rw [s.window_of_bounds (w := .wram) (by decide) hlo hhi]
  exact congrArg s.wram.read (offsetIn_of_le (base := 0xC000) hlo)

theorem State.read8_echo (s : State) {b : Word} (hlo : 0xE000 ≤ b.toNat) (hhi : b.toNat < 0xFE00) :
    s.read8 b = s.wram.read (b.toNat - 0xE000) := by
  unfold State.read8
  rw [s.window_of_bounds (w := .echo) (by decide) hlo hhi]
  exact congrArg s.wram.read (offsetIn_of_le (base := 0xE000) hlo)

theorem State.read8_hram (s : State) {b : Word} (hlo : 0xFF80 ≤ b.toNat) (hhi : b.toNat < 0xFFFF) :
    s.read8 b = s.hram.read (b.toNat - 0xFF80) := by
  unfold State.read8
  rw [s.window_of_bounds (w := .hram) (by decide) hlo hhi]
  exact congrArg s.hram.read (offsetIn_of_le (base := 0xFF80) hlo)

theorem State.write8_vram (s : State) {a : Word} (v : Byte) (hlo : 0x8000 ≤ a.toNat) (hhi : a.toNat < 0xA000) :
    s.write8 a v = { s with vram := s.vram.write (a.toNat - 0x8000) v } := by
  unfold State.write8
  rw [s.window_of_bounds (w := .vram) (by decide) hlo hhi]
  exact congrArg (fun i => { s with vram := s.vram.write i v }) (offsetIn_of_le (base := 0x8000) hlo)

theorem State.write8_wram (s : State) {a : Word} (v : Byte) (hlo : 0xC000 ≤ a.toNat) (hhi : a.toNat < 0xE000) :
    s.write8 a v = { s with wram := s.wram.write (a.toNat - 0xC000) v } := by
  unfold State.write8
  rw [s.window_of_bounds (w := .wram) (by decide) hlo hhi]
  exact congrArg (fun i => { s with wram := s.wram.write i v }) (offsetIn_of_le (base := 0xC000) hlo)

theorem State.write8_echo (s : State) {a : Word} (v : Byte) (hlo : 0xE000 ≤ a.toNat) (hhi : a.toNat < 0xFE00) :
    s.write8 a v = { s with wram := s.wram.write (a.toNat - 0xE000) v } := by
  unfold State.write8
  rw [s.window_of_bounds (w := .echo) (by decide) hlo hhi]
  exact congrArg (fun i => { s with wram := s.wram.write i v }) (offsetIn_of_le (base := 0xE000) hlo)

theorem State.write8_hram (s : State) {a : Word} (v : Byte) (hlo : 0xFF80 ≤ a.toNat) (hhi : a.toNat < 0xFFFF) :
    s.write8 a v = { s with hram := s.hram.write (a.toNat - 0xFF80) v } := by
  unfold State.write8
  rw [s.window_of_bounds (w := .hram) (by decide) hlo hhi]
  exact congrArg (fun i => { s with hram := s.hram.write i v }) (offsetIn_of_le (base := 0xFF80) hlo)

/-- An echo address is an address of work RAM, 0x2000 above (R92). -/
theorem ramCell_echo {a : Word} (hlo : 0xE000 ≤ a.toNat) (hhi : a.toNat < 0xFE00) :
    0xC000 ≤ (ramCell a).toNat ∧ (ramCell a).toNat < 0xE000 ∧ (ramCell a).toNat - 0xC000 = a.toNat - 0xE000 := by
  unfold ramCell
  rw [if_pos ⟨hlo, hhi⟩]
  bv_omega

theorem State.read8_ramCell (s : State) (b : Word) : s.read8 (ramCell b) = s.read8 b := by
  by_cases h : 0xE000 ≤ b.toNat ∧ b.toNat < 0xFE00
  · obtain ⟨hlo, hhi, hoff⟩ := ramCell_echo h.1 h.2
    rw [s.read8_wram hlo hhi, s.read8_echo h.1 h.2, hoff]
  · rw [ramCell, if_neg h]

theorem State.write8_ramCell (s : State) (a : Word) (v : Byte) : s.write8 (ramCell a) v = s.write8 a v := by
  by_cases h : 0xE000 ≤ a.toNat ∧ a.toNat < 0xFE00
  · obtain ⟨hlo, hhi, hoff⟩ := ramCell_echo h.1 h.2
    rw [s.write8_wram v hlo hhi, s.write8_echo v h.1 h.2, hoff]
  · rw [ramCell, if_neg h]

/-- The cells are video RAM, work RAM and high RAM. -/
theorem ramCell_of_isRam {a : Word} (h : isRam a) :
    (0x8000 ≤ (ramCell a).toNat ∧ (ramCell a).toNat < 0xA000) ∨ (0xC000 ≤ (ramCell a).toNat ∧ (ramCell a).toNat < 0xE000)
      ∨ (0xFF80 ≤ (ramCell a).toNat ∧ (ramCell a).toNat < 0xFFFF) := by
  unfold ramCell
  split <;> bv_omega

/-- An address of another cell lies at another offset than the cell's. -/
theorem offsetIn_ne_of_ramCell_ne {s : State} {b c : Word} (w : Window) (hne : ramCell b ≠ c)
    (hc : w.cells.toNat ≤ c.toNat) (h : s.window b = w) : offsetIn b w.base ≠ c.toNat - w.cells.toNat := fun heq =>
  hne (BitVec.eq_of_toNat_eq (by rw [ramCell_of_window h, heq, Nat.add_sub_cancel' hc]))

/-- A store to a cell is read back at every address of that cell and leaves what every other address reads. -/
theorem State.read8_write8_cell {s : State} {c : Word} (b : Word) (v : Byte) (hvram : s.vram.wf) (hwram : s.wram.wf)
    (hhram : s.hram.wf)
    (hc : (0x8000 ≤ c.toNat ∧ c.toNat < 0xA000) ∨ (0xC000 ≤ c.toNat ∧ c.toNat < 0xE000)
      ∨ (0xFF80 ≤ c.toNat ∧ c.toNat < 0xFFFF)) :
    (s.write8 c v).read8 b = if ramCell b = c then v else s.read8 b := by
  split
  case isTrue heq =>
    rw [← State.read8_ramCell, heq]
    rcases hc with ⟨hlo, hhi⟩ | ⟨hlo, hhi⟩ | ⟨hlo, hhi⟩
    · rw [s.write8_vram v hlo hhi, State.read8_vram _ hlo hhi, Memory.read_write_self hvram]
    · rw [s.write8_wram v hlo hhi, State.read8_wram _ hlo hhi, Memory.read_write_self hwram]
    · rw [s.write8_hram v hlo hhi, State.read8_hram _ hlo hhi, Memory.read_write_self hhram]
  case isFalse hne =>
    rcases hc with ⟨hlo, hhi⟩ | ⟨hlo, hhi⟩ | ⟨hlo, hhi⟩
    · rw [s.write8_vram v hlo hhi]
      exact State.read8_withArrays
        (fun h => Memory.read_write_ne hvram v (offsetIn_ne_of_ramCell_ne .vram hne hlo h))
        (fun _ => rfl) (fun _ => rfl) (fun _ => rfl) (fun _ => rfl)
    · rw [s.write8_wram v hlo hhi]
      exact State.read8_withArrays (fun _ => rfl)
        (fun h => Memory.read_write_ne hwram v (offsetIn_ne_of_ramCell_ne .wram hne hlo h))
        (fun h => Memory.read_write_ne hwram v (offsetIn_ne_of_ramCell_ne .echo hne hlo h))
        (fun _ => rfl) (fun _ => rfl)
    · rw [s.write8_hram v hlo hhi]
      exact State.read8_withArrays (fun _ => rfl) (fun _ => rfl) (fun _ => rfl) (fun _ => rfl)
        (fun h => Memory.read_write_ne hhram v (offsetIn_ne_of_ramCell_ne .hram hne hlo h))

/-- Settles O37: an echo address reads and stores as the work RAM address of its cell, and a store to a cell is one write of
one array. -/
theorem ramStoreChangesOneCell : Obligations.RamStoreChangesOneCell := by
  refine ⟨fun s a => ⟨s.read8_vram, s.read8_wram, s.read8_echo, s.read8_hram⟩,
    fun s a b v hvram hwram hhram ha => ?_⟩
  have hc := ramCell_of_isRam ha
  rw [← s.write8_ramCell a v]
  refine ⟨State.read8_write8_cell b v hvram hwram hhram hc, ?_⟩
  rcases hc with ⟨hlo, hhi⟩ | ⟨hlo, hhi⟩ | ⟨hlo, hhi⟩
  · rw [s.write8_vram v hlo hhi]
  · rw [s.write8_wram v hlo hhi]
  · rw [s.write8_hram v hlo hhi]

/-! ### The DMA copy -/

/-- The copy moves the clock as its reads do, and stores to object memory. -/
theorem State.dmaCopy_eq_withClock (v : Byte) : ∀ (k i : Nat) (s : State), ∃ now reads anchor r,
    s.dmaCopy v i k = { s.withClock now reads anchor r with oam := (s.dmaCopy v i k).oam }
  | 0, _, s => ⟨s.host.now, s.host.nowReads, s.cart.rtcAnchor, s.cart.rtc, rfl⟩
  | k + 1, i, s => by
    unfold State.dmaCopy
    dsimp only
    obtain ⟨now, reads, anchor, r, htouch⟩ := s.touch8_eq_withClock (dmaSource v i)
    rw [htouch]
    obtain ⟨now', reads', anchor', r', hcopy⟩ := State.dmaCopy_eq_withClock v k (i + 1)
      { s.withClock now reads anchor r with oam := s.oam.write i (s.read8 (dmaSource v i)) }
    exact ⟨now', reads', anchor', r', hcopy⟩

/-- A source in object memory is the byte of its own index: page 0xFE alone reaches it. -/
theorem offsetIn_dmaSource {s : State} {v : Byte} {i : Nat} (hi : i < 160) (h : s.window (dmaSource v i) = .oam) :
    offsetIn (dmaSource v i) 0xFE00 = i := by
  obtain ⟨hlo, hhi⟩ := State.bounds_of_window h
  have hv := v.isLt
  have hsource : (dmaSource v i).toNat = v.toNat * 0x100 + i := Nat.mod_eq_of_lt (by omega)
  rw [offsetIn_of_le (base := 0xFE00) hlo]
  simp only [Window.base, Window.size] at hlo hhi
  bv_omega

/-- The copy stores at each index what the decoder read there before it: no index is read after it was stored (R120). -/
theorem State.dmaCopy_oam_read (v : Byte) : ∀ (k i : Nat) (s : State), s.oam.wf → i + k ≤ 160 → ∀ j,
    (s.dmaCopy v i k).oam.read j = if i ≤ j ∧ j < i + k then s.read8 (dmaSource v j) else s.oam.read j
  | 0, i, s, _, _, j => by
    rw [if_neg (by omega)]
    rfl
  | k + 1, i, s, hwf, hk, j => by
    let t := s.touch8 (dmaSource v i)
    let u : State := { t with oam := t.oam.write i (s.read8 (dmaSource v i)) }
    have hoam : t.oam = s.oam := s.touch8_oam _
    have ih := State.dmaCopy_oam_read v k (i + 1) u (Memory.wf_write _ _ _ (hoam ▸ hwf)) (by omega) j
    have hstore : u.oam.read j = if j = i then s.read8 (dmaSource v i) else s.oam.read j := by
      rw [← hoam]
      exact Memory.read_write _ _ _ _ (hoam ▸ hwf)
    have hread (hj : i + 1 ≤ j ∧ j < i + 1 + k) : u.read8 (dmaSource v j) = s.read8 (dmaSource v j) := by
      rw [← s.touch8_read8 (dmaSource v i)]
      refine State.read8_withArrays (fun _ => rfl) (fun _ => rfl) (fun _ => rfl) (fun h => ?_) (fun _ => rfl)
      rw [offsetIn_dmaSource (by omega) h]
      exact Memory.read_write_ne (hoam ▸ hwf) _ (by omega)
    show (u.dmaCopy v (i + 1) k).oam.read j = _
    rw [ih, hstore]
    by_cases hj : i + 1 ≤ j ∧ j < i + 1 + k
    · rw [if_pos hj, if_pos (by omega), hread hj]
    · by_cases hji : j = i
      · rw [if_neg hj, if_pos hji, if_pos (by omega), hji]
      · rw [if_neg hj, if_neg hji, if_neg (by omega)]

/-- Settles O39, by induction on the number of bytes copied. -/
theorem dmaCopiesThePage : Obligations.DmaCopiesThePage := by
  intro s v hwf t
  have hport : MapsTo 0xFF46 .dma := by decide
  have ht : t = { s.dmaCopy v 0 dmaLen with dmaReg := v, dmaStall := dmaStallCycles } :=
    (s.write8_of_mapsTo v hport).trans (s.dmaWrite_eq v)
  have hcopy := s.dmaCopy_oam_read v dmaLen 0 hwf (by decide)
  obtain ⟨now, reads, anchor, r, hframe⟩ := State.dmaCopy_eq_withClock v dmaLen 0 s
  generalize s.dmaCopy v 0 dmaLen = u at ht hcopy hframe
  rw [ht]
  refine ⟨fun i hi => ?_, fun i hi => ?_, State.read8_of_mapsTo _ hport, ?_⟩
  · exact (hcopy i).trans (if_pos ⟨Nat.zero_le i, by simpa [dmaLen] using hi⟩)
  · exact (hcopy i).trans (if_neg (by simp only [dmaLen]; omega))
  · rw [hframe]
    rfl

/-! ### Instructions that store nothing -/

/-- What an instruction that stores nothing leaves: the state with fixed registers, engine, cost and live clock. -/
def State.unstored (s : State) : State :=
  { s.withClock 0 0 0 .zero with
    regs := State.reset.regs, ime := false, halted := false, haltBug := false, eiPending := false, fault := none, cost := 0 }

theorem State.touch8_unstored (s : State) (a : Word) : (s.touch8 a).unstored = s.unstored := by
  obtain ⟨now, reads, anchor, r, h⟩ := s.touch8_eq_withClock a
  rw [h]
  rfl

theorem State.unstored_read8 (s : State) (a : Word) : s.unstored.read8 a = s.read8 a :=
  State.read8_congr (s := s) (t := s.unstored) rfl rfl (fun _ => rfl) rfl rfl rfl rfl rfl rfl
    (fun r => by cases r <;> rfl) a

theorem execQuiet_unstored (s : State) : ExecQuiet (fun t => t.unstored = s.unstored) where
  regs _ h := h
  cost _ h := h
  touch a h := (State.touch8_unstored _ a).trans h

/-- An instruction that acts on the engine changes engine flags and registers, and reads at most the stack. -/
theorem exec_onEngine_unstored {i : Instr} {s t : State} (hi : i.onEngine = true) (ht : stateAfter (exec i s) = some t) :
    t.unstored = s.unstored := by
  cases i with
  | halt =>
    cases ht
    show s.halt.unstored = s.unstored
    unfold State.halt
    split <;> rfl
  | reti =>
    cases ht
    have h : s.returnFrom.unstored = s.unstored := (execQuiet_unstored s).returnFrom rfl
    unfold State.returnFromInterrupt
    generalize s.returnFrom = u at h ⊢
    exact h
  | stop _ | di | ei | illegal_D3 | illegal_DB | illegal_DD | illegal_E3 | illegal_E4 | illegal_EB | illegal_EC | illegal_ED
    | illegal_F4 | illegal_FC | illegal_FD =>
    cases ht
    rfl
  | _ => cases hi

theorem exec_unstored {i : Instr} {s t : State} (hs : i.stores = false) (ht : stateAfter (exec i s) = some t) :
    t.unstored = s.unstored := by
  cases hi : i.onEngine with
  | true => exact exec_onEngine_unstored hi ht
  | false => exact exec_quiet (execQuiet_unstored s) rfl hs hi (exec_of_stateAfter hi ht)

/-- Settles O35: the part no such instruction changes determines every field named and every byte read. -/
theorem nonStoringInstructionsLeaveMemory : Obligations.NonStoringInstructionsLeaveMemory := by
  intro i s t hs ht
  have h : t.unstored = s.unstored := exec_unstored hs ht
  have hread (a : Word) : t.read8 a = s.read8 a := by rw [← t.unstored_read8, h, s.unstored_read8]
  have hcart : t.cart = { s.cart with rtc := t.cart.rtc, rtcAnchor := t.cart.rtcAnchor } :=
    congrArg (fun u : State => { u.cart with rtc := t.cart.rtc, rtcAnchor := t.cart.rtcAnchor }) h
  have hhost : t.host = { s.host with now := t.host.now, nowReads := t.host.nowReads } :=
    congrArg (fun u : State => { u.host with now := t.host.now, nowReads := t.host.nowReads }) h
  exact ⟨hread, (congrArg State.vram h :), (congrArg State.wram h :), (congrArg State.oam h :), (congrArg State.hram h :),
    hcart, (congrArg State.ie h :), (congrArg State.iflag h :), (congrArg State.dmaReg h :),
    (congrArg State.dmaStall h :), (congrArg State.bootMapped h :), (congrArg State.bootImage h :),
    (congrArg State.par h :), (congrArg State.timer h :), (congrArg State.input h :), (congrArg State.serial h :),
    (congrArg State.ppu h :), (congrArg State.apu h :), hhost⟩

end Sys2Proof.Machine

/-!
SUPPORT. The opcode tables against the encoder: each cell of the primary table as the operand bytes it reads and the
instruction it makes of them, `decode` said once in these terms, and the encoder inverting both tables.
-/
namespace Sys2Proof

open Machine

/-! ### What a cell of the primary table reads and makes -/

/-- The operand bytes a cell reads, for the operand byte `n` or the operand word `nn` (spec/30_encoding.md R141, R145). -/
def Entry.operands (n : Byte) (nn : Word) : Entry → List Byte
  | .op _ | .illegal _ => []
  | .opN _ | .opE _ | .opX _ | .cbOp => [n]
  | .opNN _ => [loByte nn, hiByte nn]

/-- The row of the opcode table a cell names, with the operand byte `n` or the operand word `nn` in it. -/
def Entry.row (n : Byte) (nn : Word) : Entry → Instr
  | .op i | .illegal i => i
  | .opN f | .opE f | .opX f => f n
  | .opNN f => f nn
  | .cbOp => .escape_CB n

/-- The instruction a cell makes of the operand byte `n` or the operand word `nn`: its row, but behind the escape byte the
entry of the secondary table (R154). -/
def Entry.instr (n : Byte) (nn : Word) : Entry → Instr
  | .cbOp => secondary n
  | e => e.row n nn

/-- `Entry.length` counts the opcode byte and the operand bytes (R140). -/
theorem Entry.length_eq (n : Byte) (nn : Word) (e : Entry) : e.length = (e.operands n nn).length + 1 := by
  cases e <;> rfl

/-- The decoder answers the cell's instruction from the opcode and the cell's operand bytes. -/
theorem decode_operands (op n : Byte) (nn : Word) (rest : List Byte) :
    decode (op :: ((primary op).operands n nn ++ rest)) = .ok ((primary op).instr n nn, rest) := by
  unfold decode
  dsimp only
  cases primary op with
  | opNN f =>
    show Except.ok (f (pairOf (hiByte nn) (loByte nn)), rest) = .ok (f nn, rest)
    rw [pairOf_halves]
  | _ => rfl

/-- The decoder answers nothing else: the bytes it read were an opcode and the operand bytes of the opcode's cell. -/
theorem decode_eq_ok {bs rest : List Byte} {i : Instr} (h : decode bs = .ok (i, rest)) :
    ∃ op n nn, bs = op :: ((primary op).operands n nn ++ rest) ∧ i = (primary op).instr n nn := by
  obtain _ | ⟨op, tail⟩ := bs
  · cases h
  refine ⟨op, tail.headD 0, pairOf (tail.getD 1 0) (tail.headD 0), ?_⟩
  unfold decode at h
  dsimp only at h
  cases hp : primary op <;> rw [hp] at h
  case op | illegal =>
    cases h
    exact ⟨rfl, rfl⟩
  case opN | opE | opX | cbOp =>
    obtain _ | ⟨n, tail⟩ := tail <;> cases h
    exact ⟨rfl, rfl⟩
  case opNN =>
    obtain _ | ⟨lo, _ | ⟨hi, tail⟩⟩ := tail <;> cases h
    refine ⟨?_, rfl⟩
    show op :: lo :: hi :: rest = op :: loByte (pairOf hi lo) :: hiByte (pairOf hi lo) :: rest
    rw [loByte_pairOf, hiByte_pairOf]

/-! ### The encoder inverts the tables -/

/-- R153, R346: every byte after the escape byte is the second byte of its entry's encoding. -/
theorem secondary_encodes : ∀ op2, (secondary op2).WellFormed ∧ encode (secondary op2) = [0xCB, op2] := by
  decide +kernel

/-- The values of half a byte: the rows and the columns of the grid of R152. -/
def nibbles : List (BitVec 4) := (List.range 16).map (BitVec.ofNat 4)

theorem mem_nibbles : ∀ x : BitVec 4, x ∈ nibbles := by
  decide

/-- The grid of R152, row by row, with the operands left variables: the encoding of a cell's row of the opcode table is the
cell's opcode and its operand bytes. -/
theorem grid_encode (n : Byte) (nn : Word) :
    nibbles.map (fun hi => nibbles.map fun lo => encode ((primary (hi ++ lo)).row n nn))
      = nibbles.map (fun hi => nibbles.map fun lo => (hi ++ lo) :: (primary (hi ++ lo)).operands n nn) :=
  rfl

theorem encode_row (op n : Byte) (nn : Word) : encode ((primary op).row n nn) = op :: (primary op).operands n nn := by
  have hop : op.extractLsb' 4 4 ++ op.extractLsb' 0 4 = op :=
    (BitVec.extractLsb'_append_extractLsb'_eq_extractLsb' (start₁ := 0) (len₁ := 4) rfl).trans BitVec.extractLsb'_eq_self
  rw [← hop]
  exact List.map_inj_left.1 (List.map_inj_left.1 (grid_encode n nn) _ (mem_nibbles _)) _ (mem_nibbles _)

/-- Only the escape byte's own row is ill-formed (R154). -/
theorem wellFormed_of_encode {i : Instr} {op : Byte} {bs : List Byte} (h : encode i = op :: bs) (hop : op ≠ 0xCB) :
    i.WellFormed := by
  unfold Instr.WellFormed Instr.check
  split
  · exact absurd (List.cons.inj h).1.symm hop
  · rfl

/-- R152, R154: the encoding of what a cell makes is the cell's opcode and its operand bytes; the escape byte's cell makes
the entry of the secondary table. -/
theorem primary_encodes (op n : Byte) (nn : Word) :
    ((primary op).instr n nn).WellFormed ∧ encode ((primary op).instr n nn) = op :: (primary op).operands n nn := by
  by_cases hop : op = 0xCB
  · subst hop
    exact secondary_encodes n
  · have h := encode_row op n nn
    generalize primary op = e at h ⊢
    cases e with
    | cbOp => exact absurd (List.cons.inj h).1.symm hop
    | op | opN | opE | opNN | opX | illegal => exact ⟨wellFormed_of_encode h hop, h⟩

/-- The decoder inverts the encoder: the opcode selects the instruction's own cell. An operand byte is the byte encoded, so the
lookup decides the case; an operand word is put together again from its two bytes. -/
theorem decode_encode {i : Instr} (rest : List Byte) (hi : i.WellFormed) : decode (encode i ++ rest) = .ok (i, rest) := by
  cases i with
  | escape_CB _ => cases hi
  | ld_BC_nn nn | ld_DE_nn nn | ld_HL_nn nn | ld_SP_nn nn | ld_mnn_SP nn | ld_mnn_A nn | ld_A_mnn nn | jp_nn nn | jp_NZ_nn nn
    | jp_Z_nn nn | jp_NC_nn nn | jp_C_nn nn | call_nn nn | call_NZ_nn nn | call_Z_nn nn | call_NC_nn nn | call_C_nn nn =>
    exact decode_operands _ 0 nn rest
  | _ => rfl

/-! ### The length by the first byte -/

/-- The cell is an unmapped byte's. -/
def Entry.isIllegal : Entry → Bool
  | .illegal _ => true
  | _ => false

theorem Entry.isIllegal_iff (e : Entry) : e.isIllegal = true ↔ ∃ i, e = .illegal i := by
  cases e <;> simp [Entry.isIllegal]

/-- R155: the cells of format `ILLEGAL` are those of the eleven unmapped bytes. -/
theorem primary_illegal_iff (op : Byte) : (∃ i, primary op = .illegal i) ↔ op ∈ unmappedBytes := by
  rw [← Entry.isIllegal_iff]
  revert op
  decide +kernel

/-- R150: the length a cell gives, by the three lists. -/
theorem primary_length : ∀ op ∉ unmappedBytes, (primary op).length =
    if op ∈ [0x01, 0x11, 0x21, 0x31, 0x08, 0xC2, 0xCA, 0xD2, 0xDA, 0xC3, 0xC4, 0xCC, 0xD4, 0xDC, 0xCD, 0xEA, 0xFA] then 3
    else if op ∈ [0x06, 0x0E, 0x16, 0x1E, 0x26, 0x2E, 0x36, 0x3E, 0x10, 0x18, 0x20, 0x28, 0x30, 0x38, 0xC6, 0xCE, 0xD6,
      0xDE, 0xE6, 0xEE, 0xF6, 0xFE, 0xE0, 0xF0, 0xE8, 0xF8, 0xCB] then 2
    else 1 := by
  decide +kernel

/-- What the decoder leaves is what stands after the length of the first byte's cell. -/
theorem length_of_decode {op : Byte} {rest r : List Byte} {i : Instr} (h : decode (op :: rest) = .ok (i, r)) :
    rest.length + 1 = r.length + (primary op).length := by
  obtain ⟨_, n, nn, hbs, -⟩ := decode_eq_ok h
  obtain ⟨rfl, rfl⟩ := List.cons.inj hbs
  rw [List.length_append, (primary op).length_eq n nn]
  omega

end Sys2Proof

namespace Sys2Proof.Machine

/-! ### Fetching, and the obligations of the encoding -/

/-- Fetching an unmapped byte is the read's effect alone: `PC` and the halt bug are put back (R400 line 9). -/
theorem State.fetchInstr_of_illegal {s : State} {i : Instr} (h : primary s.fetchByte = .illegal i) :
    s.fetchInstr = (i, s.touch8 s.regs.pc) := by
  unfold State.fetchInstr
  rw [h]

/-- Settles O1, by the cases of the instruction. -/
theorem decodeEncodeRoundTrip : Obligations.DecodeEncodeRoundTrip := fun _ rest hi => decode_encode rest hi

/-- Settles O2: what the decoder reads is a cell's opcode and operand bytes, and these are the encoding. -/
theorem decodedBytesReencode : Obligations.DecodedBytesReencode := by
  intro bs rest i h
  obtain ⟨op, n, nn, rfl, rfl⟩ := decode_eq_ok h
  obtain ⟨hwf, henc⟩ := primary_encodes op n nn
  exact ⟨hwf, by rw [henc]; rfl⟩

/-- Settles O4, by the lengths and the formats of the primary table's cells. -/
theorem lengthFromFirstByte : Obligations.LengthFromFirstByte := by
  refine ⟨fun op rest r i hop h => ?_, primary_illegal_iff, fun s hs => ?_⟩
  · rw [← primary_length op hop]
    exact length_of_decode h
  · obtain ⟨i, hi⟩ := (primary_illegal_iff s.fetchByte).2 hs
    rw [State.fetchInstr_of_illegal hi]
    exact ⟨s.touch8_regs _, s.touch8_haltBug _⟩

/-- Settles O3: each word, looked up in the tables. -/
theorem specWordsDecode : Obligations.SpecWordsDecode :=
  ⟨rfl, rfl, rfl, rfl, rfl, rfl, rfl, rfl, rfl, rfl, rfl, rfl, rfl, rfl, rfl⟩

end Sys2Proof.Machine

/-!
SUPPORT. What an 8-bit load does: the meanings of the rows of the opcode table by their operands, and the next state that each
shared operation of the loads ends in.
-/
namespace Sys2Proof.Machine

/-! ### The rows by their operands -/

theorem encode_ldRR (x r : Reg8) : encode (.ldRR x r) = [0b01#2 ++ x.code ++ r.code] := by cases x <;> cases r <;> rfl
theorem encode_ldRN (x : Reg8) (n : Byte) : encode (.ldRN x n) = [0b00#2 ++ x.code ++ 0b110#3, n] := by cases x <;> rfl
theorem encode_ldRM (x : Reg8) : encode (.ldRM x) = [0b01#2 ++ x.code ++ 0b110#3] := by cases x <;> rfl
theorem encode_ldMR (r : Reg8) : encode (.ldMR r) = [0b01110#5 ++ r.code] := by cases r <;> rfl

theorem exec_ldRR (s : State) (x r : Reg8) : exec (.ldRR x r) s = done 4 (s.loadReg x r) := by cases x <;> cases r <;> rfl
theorem exec_ldRN (s : State) (x : Reg8) (n : Byte) : exec (.ldRN x n) s = done 8 (s.loadImm x n) := by cases x <;> rfl
theorem exec_ldRM (s : State) (x : Reg8) : exec (.ldRM x) s = done 8 (s.loadMem x s.regs.hl) := by cases x <;> rfl
theorem exec_ldMR (s : State) (r : Reg8) : exec (.ldMR r) s = done 8 (s.storeReg s.regs.hl r) := by cases r <;> rfl

/-! ### The next state of a load -/

/-- A read leaves the register file, so the byte read is all that changes in it. -/
theorem State.loadMem_eq (s : State) (x : Reg8) (a : Word) :
    s.loadMem x a = { s.touch8 a with regs := s.regs.set8 x (s.read8 a) } := by
  unfold State.loadMem State.setReg8
  rw [State.touch8_regs]

theorem done_loadMem (n : Nat) (s : State) (x : Reg8) (a : Word) :
    done n (s.loadMem x a) = .next { s.touch8 a with regs := s.regs.set8 x (s.read8 a), cost := n } := by
  rw [State.loadMem_eq]
  rfl

theorem done_storeReg (n : Nat) (s : State) (a : Word) (r : Reg8) :
    done n (s.storeReg a r) = .next { s.write8 a (s.regs.get8 r) with cost := n } := rfl

/-- `HL` moves after the read (R216, R217). -/
theorem done_loadMem_setHl (n : Nat) (s : State) (x : Reg8) (a v : Word) :
    done n ((s.loadMem x a).setHl v)
      = .next { s.touch8 a with regs := (s.regs.set8 x (s.read8 a)).setHl v, cost := n } := by
  rw [State.loadMem_eq]
  rfl

/-- `HL` moves after the store, which leaves the register file (R218, R219). -/
theorem done_storeReg_setHl (n : Nat) (s : State) (a v : Word) (r : Reg8) :
    done n ((s.storeReg a r).setHl v) = .next { s.write8 a (s.regs.get8 r) with regs := s.regs.setHl v, cost := n } := by
  unfold State.storeReg State.storeByte State.setHl
  rw [State.write8_regs]
  rfl

/-! ### The high page -/

theorem toNat_highPage (n : Byte) : (highPage n).toNat = 0xFF00 + n.toNat := by
  unfold highPage pairOf
  rw [BitVec.toNat_append]
  exact (Nat.shiftLeft_add_eq_or_of_lt n.isLt 0xFF).symm

/-- The high-page address as a sum (R212 to R215). -/
theorem highPage_eq_add (n : Byte) : highPage n = 0xFF00 + n.setWidth 16 := by
  have h := toNat_highPage n
  bv_omega

/-- No clock register lies in the high page, so a read there changes nothing (R113). -/
theorem State.touch8_highPage (s : State) (n : Byte) : s.touch8 (highPage n) = s := by
  refine Decidable.byContradiction fun hne => ?_
  obtain ⟨hw, -⟩ := State.clock_of_touch8_ne hne
  have hbelow : (highPage n).toNat < 0xC000 := (State.bounds_of_window hw).2
  have hvalue := toNat_highPage n
  omega

theorem done_loadMem_highPage (k : Nat) (s : State) (x : Reg8) (n : Byte) :
    done k (s.loadMem x (highPage n))
      = .next { s with regs := s.regs.set8 x (s.read8 (0xFF00 + n.setWidth 16)), cost := k } := by
  rw [done_loadMem, State.touch8_highPage, highPage_eq_add]

theorem done_storeReg_highPage (k : Nat) (s : State) (n : Byte) (r : Reg8) :
    done k (s.storeReg (highPage n) r) = .next { s.write8 (0xFF00 + n.setWidth 16) (s.regs.get8 r) with cost := k } := by
  rw [done_storeReg, highPage_eq_add]

/-! ### The obligations of the 8-bit loads -/

/-- Settles O6, by the meaning and the encoding of each form over its operands. -/
theorem loadsOfRegistersAndHl : Obligations.LoadsOfRegistersAndHl := fun s x r n =>
  ⟨encode_ldRR x r, exec_ldRR s x r, encode_ldRN x n, exec_ldRN s x n,
    encode_ldRM x, (exec_ldRM s x).trans (done_loadMem 8 s x _),
    encode_ldMR r, (exec_ldMR s r).trans (done_storeReg 8 s _ r), rfl, rfl⟩

/-- Settles O7: each form is a load or a store of `A` at the pair, with `HL` moved afterwards in the `+` and `-` forms. -/
theorem loadsThroughPointers : Obligations.LoadsThroughPointers := fun s =>
  ⟨⟨rfl, rfl, rfl, rfl, rfl, rfl, rfl, rfl⟩,
    done_loadMem 8 s .a s.regs.bc, done_loadMem 8 s .a s.regs.de,
    done_storeReg 8 s s.regs.bc .a, done_storeReg 8 s s.regs.de .a,
    done_loadMem_setHl 8 s .a s.regs.hl (s.regs.hl + 1), done_loadMem_setHl 8 s .a s.regs.hl (s.regs.hl - 1),
    done_storeReg_setHl 8 s s.regs.hl (s.regs.hl + 1) .a, done_storeReg_setHl 8 s s.regs.hl (s.regs.hl - 1) .a⟩

/-- Settles O8: each form is a load or a store of `A` at its address; in the high page the read leaves the state. -/
theorem loadsOfFixedAddresses : Obligations.LoadsOfFixedAddresses := fun s n nn =>
  ⟨⟨rfl, rfl, rfl, rfl, rfl, rfl⟩,
    done_loadMem 16 s .a nn, done_storeReg 16 s nn .a,
    done_loadMem_highPage 8 s .a s.regs.c, done_storeReg_highPage 8 s s.regs.c .a,
    done_loadMem_highPage 12 s .a n, done_storeReg_highPage 12 s n .a⟩

end Sys2Proof.Machine

/-!
SUPPORT. The 16-bit loads and the stack: the rows of the opcode table by their operands, the signed sum of a stack pointer and
a displacement, the next state of a push and of a pop, and what reads return after a push to work RAM.
-/
namespace Sys2Proof.Machine

/-! ### The rows by their operands -/

theorem encode_ldRpNN (p : Pair) (nn : Word) :
    encode (.ldRpNN p nn) = [0b00#2 ++ p.code ++ 0b0001#4, loByte nn, hiByte nn] := by cases p <;> rfl
theorem encode_push (p : StackPair) : encode (.push p) = [0b11#2 ++ p.code ++ 0b0101#4] := by cases p <;> rfl
theorem encode_pop (p : StackPair) : encode (.pop p) = [0b11#2 ++ p.code ++ 0b0001#4] := by cases p <;> rfl

theorem exec_ldRpNN (s : State) (p : Pair) (nn : Word) : exec (.ldRpNN p nn) s = done 12 (s.setPair p nn) := by
  cases p <;> rfl
theorem exec_push (s : State) (p : StackPair) : exec (.push p) s = done 16 (s.pushPair p) := by cases p <;> rfl
theorem exec_pop (s : State) (p : StackPair) : exec (.pop p) s = done 12 (s.popPair p) := by cases p <;> rfl

/-! ### A stack pointer plus a displacement -/

/-- A displacement is read in two's complement: a byte from 0x80 on stands for itself less 256. -/
theorem toInt_displacement (e : Byte) :
    e.toInt = if e.toNat < 0x80 then (e.toNat : Int) else (e.toNat : Int) - 256 := by
  rw [BitVec.toInt_eq_toNat_cond]
  split <;> split <;> omega

/-- The sum of R314, as the signed sum reduced modulo 65536. -/
theorem add_signExtend_eq_ofInt (sp : Word) (e : Byte) :
    sp + e.signExtend 16
      = BitVec.ofInt 16 ((sp.toNat : Int) + (if e.toNat < 0x80 then (e.toNat : Int) else (e.toNat : Int) - 256)) :=
  calc sp + e.signExtend 16
    _ = BitVec.ofInt 16 sp.toNat + BitVec.ofInt 16 e.toInt := by
      rw [BitVec.ofInt_natCast, BitVec.ofNat_toNat, BitVec.setWidth_eq]; rfl
    _ = BitVec.ofInt 16 (sp.toNat + e.toInt) := (BitVec.ofInt_add ..).symm
    _ = _ := by rw [toInt_displacement]

/-- Settles O9, by the meaning of each row and the signed sum. -/
theorem wordLoadsAndStackPointerSums : Obligations.WordLoadsAndStackPointerSums := by
  intro s p nn e res fl
  have hsum : addSpResult s.regs.sp e = (res, fl) := congrArg (·, fl) (add_signExtend_eq_ofInt s.regs.sp e)
  have hload : s.loadHlSp e = (s.setHl res).setFlags fl := by rw [State.loadHlSp, hsum]
  have hadd : s.addSp e = (s.setSp res).setFlags fl := by rw [State.addSp, hsum]
  exact ⟨encode_ldRpNN p nn, exec_ldRpNN s p nn, rfl, rfl, rfl, rfl, rfl, congrArg (done 12) hload, rfl,
    congrArg (done 16) hadd⟩

/-! ### The next state of a push and of a pop -/

theorem State.push16_regs (s : State) (v : Word) : (s.push16 v).regs = { s.regs with sp := s.regs.sp - 2 } := by
  rw [State.push16_eq, State.setSp_regs, State.write8_regs, State.write8_regs]

theorem done_pushPair (n : Nat) (s : State) (p : StackPair) :
    done n (s.pushPair p)
      = .next { (s.write8 (s.regs.sp - 1) (hiByte (s.regs.getStack p))).write8 (s.regs.sp - 2)
            (loByte (s.regs.getStack p)) with
          regs := { s.regs with sp := s.regs.sp - 2 }, cost := n } := by
  unfold State.pushPair
  rw [State.push16_eq, ← s.push16_regs (s.regs.getStack p), State.push16_eq]
  rfl

/-- The reads of a pop leave the register file, and writing the pair leaves `SP`. -/
theorem State.popPair_regs (s : State) (p : StackPair) :
    (s.popPair p).regs = { s.regs.setStack p s.popValue with sp := s.regs.sp + 2 } := by
  have hpopped : s.popped.regs = { s.regs with sp := s.regs.sp + 2 } := by
    rw [State.popped, State.touch16, State.setSp_regs, State.touch8_regs, State.touch8_regs]
  rw [State.popPair, State.withRegs_regs, hpopped]
  cases p <;> rfl

theorem done_popPair (n : Nat) (s : State) (p : StackPair) :
    done n (s.popPair p)
      = .next { (s.touch8 s.regs.sp).touch8 (s.regs.sp + 1) with
          regs := { s.regs.setStack p (s.read8 (s.regs.sp + 1) ++ s.read8 s.regs.sp) with sp := s.regs.sp + 2 }
          cost := n } :=
  congrArg (fun r => done n ((s.touch16 s.regs.sp).withRegs r)) (s.popPair_regs p)

/-- `POP AF` takes the flags from bits 7 to 4 of the low byte; the other pairs have no flag in them (R246). -/
theorem Regs.setStack_f (r : Regs) (p : StackPair) (v : Word) :
    (r.setStack p v).f = if p = .af then ⟨v.getLsbD 7, v.getLsbD 6, v.getLsbD 5, v.getLsbD 4⟩ else r.f := by
  cases p with
  | af =>
    have hbit (i : Nat) (hi : i < 8) : (loByte v).getLsbD i = v.getLsbD i := by
      rw [loByte, BitVec.getLsbD_extractLsb', decide_eq_true hi, Bool.true_and, Nat.zero_add]
    show Flags.ofByte (loByte v) = ⟨v.getLsbD 7, v.getLsbD 6, v.getLsbD 5, v.getLsbD 4⟩
    rw [Flags.ofByte, hbit 7 (by decide), hbit 6 (by decide), hbit 5 (by decide), hbit 4 (by decide)]
  | _ => rfl

/-- The bits of `F` (R25). -/
theorem Flags.getLsbD_toByte (f : Flags) :
    f.toByte.getLsbD 7 = f.zf ∧ f.toByte.getLsbD 6 = f.nf ∧ f.toByte.getLsbD 5 = f.hf ∧ f.toByte.getLsbD 4 = f.cf := by
  have h := f.ofByte_toByte
  exact ⟨congrArg Flags.zf h, congrArg Flags.nf h, congrArg Flags.hf h, congrArg Flags.cf h⟩

/-- Settles O10, by the next states of a push and of a pop and the bits of `F`. -/
theorem pushAndPop : Obligations.PushAndPop := fun s p =>
  ⟨encode_push p, (exec_push s p).trans (done_pushPair 16 s p), encode_pop p, (exec_pop s p).trans (done_popPair 12 s p),
    s.regs.setStack_f p, Flags.getLsbD_toByte⟩

/-! ### A push to work RAM -/

/-- A store to work RAM is read back at every address of its cell and leaves what every other address reads. -/
theorem State.read8_write8_wram {s : State} {c : Word} (b : Word) (v : Byte) (hwf : s.wram.wf) (hlo : 0xC000 ≤ c.toNat)
    (hhi : c.toNat < 0xE000) : (s.write8 c v).read8 b = if ramCell b = c then v else s.read8 b := by
  rw [s.write8_wram v hlo hhi]
  split
  case isTrue heq => rw [← State.read8_ramCell, heq, State.read8_wram _ hlo hhi, Memory.read_write_self hwf]
  case isFalse hne =>
    exact State.read8_withArrays (fun _ => rfl)
      (fun h => Memory.read_write_ne hwf v (offsetIn_ne_of_ramCell_ne .wram hne hlo h))
      (fun h => Memory.read_write_ne hwf v (offsetIn_ne_of_ramCell_ne .echo hne hlo h))
      (fun _ => rfl) (fun _ => rfl)

theorem ramCell_of_lt {a : Word} (h : a.toNat < 0xE000) : ramCell a = a := if_neg (by omega)

section
variable (s : State) (v : Word) (hwf : s.wram.wf) (hlo : 0xC002 ≤ s.regs.sp.toNat) (hhi : s.regs.sp.toNat ≤ 0xE000)
include hwf hlo hhi

/-- A push to work RAM changes the two stack bytes, at their addresses and at their echoes. -/
theorem State.push16_read8 (b : Word) :
    (s.push16 v).read8 b
      = if ramCell b = s.regs.sp - 2 then loByte v else if ramCell b = s.regs.sp - 1 then hiByte v else s.read8 b := by
  have hwf' : (s.write8 (s.regs.sp - 1) (hiByte v)).wram.wf := by
    rw [s.write8_wram _ (by bv_omega) (by bv_omega)]
    exact Memory.wf_write _ _ _ hwf
  rw [State.push16_eq, State.setSp_read8, State.read8_write8_wram b _ hwf' (by bv_omega) (by bv_omega),
    State.read8_write8_wram b _ hwf (by bv_omega) (by bv_omega)]

/-- The word popped is the word pushed. -/
theorem State.popValue_push16 : (s.push16 v).popValue = v := by
  have hsp : (s.push16 v).regs.sp = s.regs.sp - 2 := congrArg Regs.sp (s.push16_regs v)
  have hlow : (s.push16 v).read8 (s.regs.sp - 2) = loByte v := by
    rw [s.push16_read8 v hwf hlo hhi, ramCell_of_lt (by bv_omega), if_pos rfl]
  have hhigh : (s.push16 v).read8 (s.regs.sp - 2 + 1) = hiByte v := by
    rw [s.push16_read8 v hwf hlo hhi, ramCell_of_lt (by bv_omega), if_neg (by bv_omega), if_pos (by bv_omega)]
  rw [State.popValue, hsp, State.read16, hlow, hhigh, pairOf_halves]

end

/-- Writing back a pair's own word changes no register: the low nibble of `F` is zero already (R24). -/
theorem Regs.setStack_getStack (r : Regs) (p : StackPair) : r.setStack p (r.getStack p) = r := by
  cases p with
  | af =>
    show { r with a := hiByte (pairOf r.a r.f.toByte), f := Flags.ofByte (loByte (pairOf r.a r.f.toByte)) } = r
    rw [hiByte_pairOf, loByte_pairOf, Flags.ofByte_toByte]
  | _ => simp [Regs.setStack, Regs.getStack, Regs.bc, Regs.de, Regs.hl, Regs.setHl]

/-- No pair of the stack has `SP` in it: what `SP` was does not matter once it is written after the pair. -/
theorem Regs.setStack_withSp (r : Regs) (p : StackPair) (v sp sp' : Word) :
    { ({ r with sp := sp } : Regs).setStack p v with sp := sp' } = { r.setStack p v with sp := sp' } := by
  cases p <;> rfl

theorem State.popPair_read8 (s : State) (p : StackPair) (b : Word) : (s.popPair p).read8 b = s.read8 b := by
  rw [State.popPair, State.withRegs_read8, State.popped, State.setSp_read8, State.touch16, State.touch8_read8,
    State.touch8_read8]

/-- Settles O11: the pop reads back the word pushed, and writing a pair's own word back changes no register. -/
theorem popAfterPush : Obligations.PopAfterPush := by
  intro s p hwf hlo hhi
  let t := (s.pushPair p).withCost 16
  refine ⟨t, (t.popPair p).withCost 12, exec_push s p, exec_pop t p, ?regs, fun b => ?pop, fun b h1 h2 => ?push⟩
  case regs =>
    have hvalue : t.popValue = s.regs.getStack p := s.popValue_push16 _ hwf hlo hhi
    have hregs : t.regs = { s.regs with sp := s.regs.sp - 2 } := s.push16_regs _
    rw [State.withCost_regs, State.popPair_regs, hvalue, hregs, Regs.setStack_withSp, Regs.setStack_getStack,
      BitVec.sub_add_cancel]
  case pop => rw [State.withCost_read8, State.popPair_read8]
  case push => rw [State.withCost_read8, State.pushPair, s.push16_read8 _ hwf hlo hhi, if_neg h2, if_neg h1]

end Sys2Proof.Machine

/-!
SUPPORT. 8-bit arithmetic and logic: the rows of the opcode table by their operands, the results and flags of file 42 of the
spec as its rules write them, the next state of each shared operation, and what `DAA` makes of packed BCD.
-/
namespace Sys2Proof.Machine

/-! ### The rows by their operands -/

theorem encode_aluR (op : AluOp) (r : Reg8) : encode (.aluR op r) = [(0b10#2 ++ op.code) ++ r.code] := by
  cases op <;> cases r <;> rfl
theorem encode_incR (r : Reg8) : encode (.incR r) = [0b00#2 ++ r.code ++ 0b100#3] := by cases r <;> rfl
theorem encode_decR (r : Reg8) : encode (.decR r) = [0b00#2 ++ r.code ++ 0b101#3] := by cases r <;> rfl
theorem encode_addHlRp (p : Pair) : encode (.addHlRp p) = [0b00#2 ++ p.code ++ 0b1001#4] := by cases p <;> rfl
theorem encode_incRp (p : Pair) : encode (.incRp p) = [0b00#2 ++ p.code ++ 0b0011#4] := by cases p <;> rfl
theorem encode_decRp (p : Pair) : encode (.decRp p) = [0b00#2 ++ p.code ++ 0b1011#4] := by cases p <;> rfl

theorem exec_aluR (s : State) (op : AluOp) (r : Reg8) : exec (.aluR op r) s = done 4 (s.aluReg op r) := by
  cases op <;> cases r <;> rfl
theorem exec_aluM (s : State) (op : AluOp) : exec (.aluM op) s = done 8 (s.aluMem op) := by cases op <;> rfl
theorem exec_aluN (s : State) (op : AluOp) (n : Byte) : exec (.aluN op n) s = done 8 (s.alu op n) := by cases op <;> rfl
theorem exec_incR (s : State) (r : Reg8) : exec (.incR r) s = done 4 (s.incReg r) := by cases r <;> rfl
theorem exec_decR (s : State) (r : Reg8) : exec (.decR r) s = done 4 (s.decReg r) := by cases r <;> rfl
theorem exec_addHlRp (s : State) (p : Pair) : exec (.addHlRp p) s = done 8 (s.addHl p) := by cases p <;> rfl
theorem exec_incRp (s : State) (p : Pair) : exec (.incRp p) s = done 8 (s.incPair p) := by cases p <;> rfl
theorem exec_decRp (s : State) (p : Pair) : exec (.decRp p) s = done 8 (s.decPair p) := by cases p <;> rfl

/-! ### The next state of a shared operation -/

/-- The state `u` with `A` and the flags of an accumulator operation on the registers of `s` and the byte `v`, at the cost `k`:
the next state of every form of the operation. -/
def State.aluNext (s u : State) (op : AluOp) (v : Byte) (k : Nat) : State :=
  { u with
    regs := { s.regs with a := (aluResult op s.regs.a v s.regs.f).1, f := (aluResult op s.regs.a v s.regs.f).2 }
    cost := k }

theorem exec_aluR_next (s : State) (op : AluOp) (r : Reg8) :
    exec (.aluR op r) s = .next (s.aluNext s op (s.regs.get8 r) 4) := exec_aluR s op r

theorem exec_aluN_next (s : State) (op : AluOp) (n : Byte) : exec (.aluN op n) s = .next (s.aluNext s op n 8) :=
  exec_aluN s op n

/-- The read at `HL` leaves the register file, so its byte is all that the operation sees of it. -/
theorem exec_aluM_next (s : State) (op : AluOp) :
    exec (.aluM op) s = .next (s.aluNext (s.touch8 s.regs.hl) op (s.read8 s.regs.hl) 8) := by
  rw [exec_aluM, State.aluMem, State.alu, State.touch8_regs]
  rfl

/-- Neither the read nor the store at `HL` moves the register file, so the flags are all that changes in it. -/
theorem done_modifyHl (k : Nat) (s : State) (v : Byte) (f : Flags) :
    done k (s.modifyHl v f)
      = .next { (s.touch8 s.regs.hl).write8 s.regs.hl v with regs := { s.regs with f := f }, cost := k } := by
  rw [State.modifyHl, State.setFlags, State.write8_regs, State.touch8_regs]
  rfl

/-! ### Results and flags as the rules write them -/

theorem ofNat8_eq_zero_iff (n : Nat) : BitVec.ofNat 8 n = 0 ↔ n % 256 = 0 := by
  rw [← BitVec.toNat_inj, BitVec.toNat_ofNat]
  rfl

/-- `BitVec.toNat_ofInt` with the modulus a numeral, as `omega` needs it. -/
theorem toNat_ofInt8 (i : Int) : (BitVec.ofInt 8 i).toNat = (i % 256).toNat := BitVec.toNat_ofInt ..

theorem ofInt8_eq_zero_iff (i : Int) : BitVec.ofInt 8 i = 0 ↔ i % 256 = 0 := by
  rw [← BitVec.toNat_inj, toNat_ofInt8]
  show (i % 256).toNat = 0 ↔ _
  omega

/-- `Zf` of an addition is that of the sum modulo 256 (R254, R260). -/
theorem addFlags_add8 (a v : Byte) (cin : Bool) :
    (add8 a v cin).addFlags =
      { zf := decide ((a.toNat + v.toNat + cin.toNat) % 256 = 0)
        nf := false
        hf := decide (a.toNat % 16 + v.toNat % 16 + cin.toNat > 0x0F)
        cf := decide (a.toNat + v.toNat + cin.toNat > 0xFF) } := by
  rw [Sum8.addFlags, add8, decide_eq_decide.2 (ofNat8_eq_zero_iff _)]

/-- `Zf` of a subtraction is that of the difference modulo 256 (R255, R266). -/
theorem subFlags_sub8 (a v : Byte) (cin : Bool) :
    (sub8 a v cin).subFlags =
      { zf := decide (((a.toNat : Int) - v.toNat - cin.toNat) % 256 = 0)
        nf := true
        hf := decide (((a.toNat % 16 : Nat) : Int) - ((v.toNat % 16 : Nat) : Int) - cin.toNat < 0)
        cf := decide ((a.toNat : Int) - v.toNat - cin.toNat < 0) } := by
  rw [Sum8.subFlags, sub8, decide_eq_decide.2 (ofInt8_eq_zero_iff _)]

/-- The half carry of an increment comes from the low digit 0xF alone (R284). -/
theorem incResult_eq (v : Byte) (f : Flags) :
    incResult v f = (v + 1, { f with zf := decide (v + 1 = 0), nf := false, hf := decide (v.toNat % 16 = 0x0F) }) := by
  have hres : (add8 v 1 false).res = v + 1 := by
    rw [← BitVec.toNat_inj]
    simp [add8]
  have hhalf : (add8 v 1 false).h = decide (v.toNat % 16 = 0x0F) :=
    decide_eq_decide.2 (show v.toNat % 16 + 1 + 0 > 0x0F ↔ _ by omega)
  rw [incResult, hres, hhalf]

/-- The half borrow of a decrement comes from the low digit 0 alone (R286). -/
theorem decResult_eq (v : Byte) (f : Flags) :
    decResult v f = (v - 1, { f with zf := decide (v - 1 = 0), nf := true, hf := decide (v.toNat % 16 = 0) }) := by
  have hres : (sub8 v 1 false).res = v - 1 := by
    rw [← BitVec.toNat_inj]
    show (BitVec.ofInt 8 ((v.toNat : Int) - 1 - 0)).toNat = _
    rw [toNat_ofInt8, BitVec.toNat_sub]
    show _ = (256 - 1 + v.toNat) % 256
    omega
  have hhalf : (sub8 v 1 false).h = decide (v.toNat % 16 = 0) :=
    decide_eq_decide.2 (show ((v.toNat % 16 : Nat) : Int) - 1 - 0 < 0 ↔ _ by omega)
  rw [decResult, hres, hhalf]

/-! ### The obligations of the accumulator operations -/

/-- Settles O12, by the next state of each form and the flags of a sum. -/
theorem addAndAdc : Obligations.AddAndAdc := by
  intro s r n after
  have hadd (u : State) (v : Byte) (k : Nat) : s.aluNext u .add v k = after u v 0 k := by
    rw [State.aluNext, aluResult, addFlags_add8]
    rfl
  have hadc (u : State) (v : Byte) (k : Nat) : s.aluNext u .adc v k = after u v s.regs.f.cf.toNat k := by
    rw [State.aluNext, aluResult, addFlags_add8]
    rfl
  exact ⟨⟨encode_aluR .add r, rfl, rfl, encode_aluR .adc r, rfl, rfl⟩,
    by rw [exec_aluR_next, hadd], by rw [exec_aluM_next, hadd], by rw [exec_aluN_next, hadd],
    by rw [exec_aluR_next, hadc], by rw [exec_aluM_next, hadc], by rw [exec_aluN_next, hadc]⟩

/-- Settles O13, by the next state of each form and the flags of a difference. -/
theorem subSbcAndCp : Obligations.SubSbcAndCp := by
  intro s r n fl after cmp
  have hsub (u : State) (v : Byte) (k : Nat) : s.aluNext u .sub v k = after u v 0 k := by
    rw [State.aluNext, aluResult, subFlags_sub8]
    rfl
  have hsbc (u : State) (v : Byte) (k : Nat) : s.aluNext u .sbc v k = after u v s.regs.f.cf.toNat k := by
    rw [State.aluNext, aluResult, subFlags_sub8]
    rfl
  have hcp (u : State) (v : Byte) (k : Nat) : s.aluNext u .cp v k = cmp u v k := by
    rw [State.aluNext, aluResult, subFlags_sub8]
    rfl
  exact ⟨⟨encode_aluR .sub r, rfl, rfl, encode_aluR .sbc r, rfl, rfl, encode_aluR .cp r, rfl, rfl⟩,
    by rw [exec_aluR_next, hsub], by rw [exec_aluM_next, hsub], by rw [exec_aluN_next, hsub],
    by rw [exec_aluR_next, hsbc], by rw [exec_aluM_next, hsbc], by rw [exec_aluN_next, hsbc],
    by rw [exec_aluR_next, hcp], by rw [exec_aluM_next, hcp], by rw [exec_aluN_next, hcp]⟩

/-- Settles O14: the next state of each form, with the flags of R256 by their definition. -/
theorem andXorOr : Obligations.AndXorOr := fun s r n =>
  ⟨⟨encode_aluR .and r, rfl, rfl, encode_aluR .xor r, rfl, rfl, encode_aluR .or r, rfl, rfl⟩,
    exec_aluR_next s .and r, exec_aluM_next s .and, exec_aluN_next s .and n,
    exec_aluR_next s .xor r, exec_aluM_next s .xor, exec_aluN_next s .xor n,
    exec_aluR_next s .or r, exec_aluM_next s .or, exec_aluN_next s .or n⟩

/-- Settles O15, by the results of R284 and R286 and, at `HL`, the next state of a read and a store. -/
theorem incAndDec : Obligations.IncAndDec := by
  intro s r inc dec v m
  have hinc (w : Byte) : incResult w s.regs.f = (w + 1, inc w) := incResult_eq w s.regs.f
  have hdec (w : Byte) : decResult w s.regs.f = (w - 1, dec w) := decResult_eq w s.regs.f
  exact ⟨⟨encode_incR r, rfl, encode_decR r, rfl⟩,
    by rw [exec_incR, State.incReg, hinc]; rfl,
    (done_modifyHl 12 s _ _).trans (by rw [hinc]),
    by rw [exec_decR, State.decReg, hdec]; rfl,
    (done_modifyHl 12 s _ _).trans (by rw [hdec])⟩

/-! ### Decimal adjustment -/

theorem ofInt_sub {w : Nat} (i j : Int) : BitVec.ofInt w (i - j) = BitVec.ofInt w i - BitVec.ofInt w j := by
  rw [Int.sub_eq_add_neg, BitVec.ofInt_add, BitVec.ofInt_neg, BitVec.sub_eq_add_neg]

theorem daaLow_iff (a : Byte) (f : Flags) :
    daaLow a f = true ↔ f.hf = true ∨ (f.nf = false ∧ a.toNat % 16 > 0x09) := by
  simp [daaLow]

theorem daaHigh_iff (a : Byte) (f : Flags) :
    daaHigh a f = true ↔ f.cf = true ∨ (f.nf = false ∧ a.toNat > 0x99) := by
  simp [daaHigh]

/-- The correction of `DAA` under its two tests (R288). -/
def daaCorr (low high : Bool) : Nat := (if low then 0x06 else 0) + (if high then 0x60 else 0)

/-- The two corrections touch different digits, so the spec's `|` is their sum; the sum or difference is exact, then narrowed. -/
theorem daaResult_fst (a : Byte) (f : Flags) :
    (daaResult a f).1 = BitVec.ofInt 8
      (if f.nf then (a.toNat : Int) - daaCorr (daaLow a f) (daaHigh a f)
        else (a.toNat : Int) + daaCorr (daaLow a f) (daaHigh a f)) := by
  have hcorr (low high : Bool) :
      ((if low then 0x06 else 0x00) ||| (if high then 0x60 else 0x00) : Byte) = BitVec.ofInt 8 (daaCorr low high) := by
    cases low <;> cases high <;> rfl
  have ha : a = BitVec.ofInt 8 a.toNat := by rw [BitVec.ofInt_natCast, BitVec.ofNat_toNat, BitVec.setWidth_eq]
  rw [daaResult, hcorr]
  cases f.nf with
  | false => exact (congrArg (· + _) ha).trans (BitVec.ofInt_add ..).symm
  | true => exact (congrArg (· - _) ha).trans (ofInt_sub ..).symm

/-- Settles O16: the result of `DAA` with its two tests as R288 writes them. -/
theorem decimalAdjust : Obligations.DecimalAdjust := by
  intro s a f corr res
  have hcorr : daaCorr (daaLow s.regs.a f) (daaHigh s.regs.a f) = corr := by
    simp only [daaCorr, daaLow_iff, daaHigh_iff]
    rfl
  have hres : (daaResult s.regs.a f).1 = res := by rw [daaResult_fst, hcorr]
  have hcarry : daaHigh s.regs.a f = decide (f.cf = true ∨ (f.nf = false ∧ a > 0x99)) := by
    rw [Bool.eq_iff_iff, decide_eq_true_iff, daaHigh_iff]
  have hflags : (daaResult s.regs.a f).2 =
      { zf := decide (res = 0), nf := f.nf, hf := false
        cf := decide (f.cf = true ∨ (f.nf = false ∧ a > 0x99)) } := by
    rw [← hres, ← hcarry]
    rfl
  refine ⟨rfl, ?_⟩
  show done 4 s.daa = _
  rw [State.daa, hres, hflags]
  rfl

/-- The packed BCD byte of a number below 100. -/
def packedBcd (k : Nat) : Byte := BitVec.ofNat 8 (k / 10 * 16 + k % 10)

/-- Packing leaves a gap of 6 below each ten. -/
theorem toNat_packedBcd {k : Nat} (hk : k < 100) : (packedBcd k).toNat = k + 6 * (k / 10) := by
  rw [packedBcd, BitVec.toNat_ofNat]
  omega

section
variable {x y : Nat} (hx : x < 100) (hy : y < 100)
include hx hy

/-- `DAA` after `ADD` corrects the low digit when the units carry, and the high digit when the decimal sum carries. -/
theorem daaResult_add8_packedBcd :
    let sum := add8 (packedBcd x) (packedBcd y) false
    (daaResult sum.res sum.addFlags).1 = packedBcd ((x + y) % 100)
      ∧ (daaResult sum.res sum.addFlags).2.cf = decide (x + y ≥ 100) := by
  intro sum
  have hres : sum.res.toNat = (x + 6 * (x / 10) + (y + 6 * (y / 10))) % 256 := by
    rw [← toNat_packedBcd hx, ← toNat_packedBcd hy]
    exact BitVec.toNat_ofNat ..
  have hlow : daaLow sum.res sum.addFlags = decide (x % 10 + y % 10 ≥ 10) := by
    rw [Bool.eq_iff_iff, daaLow_iff, hres, addFlags_add8, toNat_packedBcd hx, toNat_packedBcd hy]
    simp only [decide_eq_true_iff, Bool.toNat_false, true_and]
    omega
  have hhigh : daaHigh sum.res sum.addFlags = decide (x + y ≥ 100) := by
    rw [Bool.eq_iff_iff, daaHigh_iff, hres, addFlags_add8, toNat_packedBcd hx, toNat_packedBcd hy]
    simp only [decide_eq_true_iff, Bool.toNat_false, true_and]
    -- The quotient's sign, which `omega` does not find by itself.
    have hle := Nat.mod_le (x + 6 * (x / 10) + (y + 6 * (y / 10))) 256
    omega
  have hnf : sum.addFlags.nf = false := rfl
  refine ⟨?_, hhigh⟩
  rw [daaResult_fst, hlow, hhigh, hres, ← BitVec.toNat_inj, toNat_packedBcd (Nat.mod_lt _ (by decide)), toNat_ofInt8]
  simp only [hnf, daaCorr, decide_eq_true_iff, Bool.false_eq_true, if_false]
  split <;> split <;> omega

/-- `DAA` after `SUB` corrects the low digit when the units borrow, and the high digit when the decimal difference borrows. -/
theorem daaResult_sub8_packedBcd :
    let diff := sub8 (packedBcd x) (packedBcd y) false
    (daaResult diff.res diff.subFlags).1 = packedBcd ((x + 100 - y) % 100)
      ∧ (daaResult diff.res diff.subFlags).2.cf = decide (x < y) := by
  intro diff
  have hres : (diff.res.toNat : Int) = ((x + 6 * (x / 10) : Nat) - (y + 6 * (y / 10) : Nat)) % 256 := by
    rw [← toNat_packedBcd hx, ← toNat_packedBcd hy]
    show ((BitVec.ofInt 8 (_ - _ - 0)).toNat : Int) = _
    rw [toNat_ofInt8]
    omega
  have hlow : daaLow diff.res diff.subFlags = decide (x % 10 < y % 10) := by
    rw [Bool.eq_iff_iff, daaLow_iff, subFlags_sub8, toNat_packedBcd hx, toNat_packedBcd hy]
    simp only [decide_eq_true_iff, Bool.toNat_false, reduceCtorEq, false_and, or_false]
    omega
  have hhigh : daaHigh diff.res diff.subFlags = decide (x < y) := by
    rw [Bool.eq_iff_iff, daaHigh_iff, subFlags_sub8, toNat_packedBcd hx, toNat_packedBcd hy]
    simp only [decide_eq_true_iff, Bool.toNat_false, reduceCtorEq, false_and, or_false]
    omega
  have hnf : diff.subFlags.nf = true := rfl
  refine ⟨?_, hhigh⟩
  rw [daaResult_fst, hlow, hhigh, hres, ← BitVec.toNat_inj, toNat_packedBcd (Nat.mod_lt _ (by decide)), toNat_ofInt8]
  simp only [hnf, daaCorr, decide_eq_true_iff, if_true]
  split <;> split <;> omega

end

/-- Settles O17: the two rows run one after the other, so `DAA` acts on the result and the flags of the sum or difference. -/
theorem decimalAdjustCorrectsBcd : Obligations.DecimalAdjustCorrectsBcd := by
  intro s x y hx hy bcd ha
  have hadd := daaResult_add8_packedBcd hx hy
  have hsub := daaResult_sub8_packedBcd hx hy
  have ha' : packedBcd x = s.regs.a := ha.symm
  rw [ha'] at hadd hsub
  exact ⟨⟨_, _, exec_aluN s .add (bcd y), rfl, hadd⟩, _, _, exec_aluN s .sub (bcd y), rfl, hsub⟩

/-! ### Word arithmetic -/

theorem hiByte_ofNat (n : Nat) : hiByte (BitVec.ofNat 16 n) = BitVec.ofNat 8 (n / 256) := by
  rw [← BitVec.toNat_inj, hiByte, BitVec.extractLsb'_toNat, BitVec.toNat_ofNat, BitVec.toNat_ofNat, Nat.shiftRight_eq_div_pow]
  omega

theorem loByte_ofNat (n : Nat) : loByte (BitVec.ofNat 16 n) = BitVec.ofNat 8 n := by
  rw [← BitVec.toNat_inj, loByte, BitVec.extractLsb'_toNat, BitVec.toNat_ofNat, BitVec.toNat_ofNat, Nat.shiftRight_zero]
  omega

/-- Settles O18, by the meaning of each row and the halves of a 16-bit sum. -/
theorem flagAdjustersAndWordArithmetic : Obligations.FlagAdjustersAndWordArithmetic := fun s p =>
  ⟨⟨rfl, rfl, rfl, encode_addHlRp p, encode_incRp p, encode_decRp p⟩, rfl, rfl, rfl,
    by rw [exec_addHlRp, State.addHl, State.setHl, Regs.setHl, addHlResult, hiByte_ofNat, loByte_ofNat]; rfl,
    exec_incRp s p, exec_decRp s p⟩

end Sys2Proof.Machine

/-!
SUPPORT. The rotates, the shifts and the bit instructions: the rows of the opcode table by their operands, the results and flags
of file 44 of the spec as its rules write them, the next state of each form, and the escape byte as an entry of the secondary
table.
-/
namespace Sys2Proof.Machine

/-! ### The rows by their operands -/

/-- The eight bit numbers, one by one. -/
theorem bit_cases {motive : Fin 8 → Prop} (b : Fin 8) (bit0 : motive 0) (bit1 : motive 1) (bit2 : motive 2)
    (bit3 : motive 3) (bit4 : motive 4) (bit5 : motive 5) (bit6 : motive 6) (bit7 : motive 7) : motive b :=
  match b with
  | 0 => bit0 | 1 => bit1 | 2 => bit2 | 3 => bit3 | 4 => bit4 | 5 => bit5 | 6 => bit6 | 7 => bit7

theorem encode_rotR (op : RotOp) (r : Reg8) : encode (.rotR op r) = [0xCB, 0b00#2 ++ op.code ++ r.code] := by
  cases op <;> cases r <;> rfl
theorem encode_rotM (op : RotOp) : encode (.rotM op) = [0xCB, 0b00#2 ++ op.code ++ 0b110#3] := by cases op <;> rfl
theorem encode_bitR (b : Fin 8) (r : Reg8) :
    encode (.bitR b r) = [0xCB, 0b01#2 ++ BitVec.ofNat 3 b.val ++ r.code] := by cases b using bit_cases <;> cases r <;> rfl
theorem encode_bitM (b : Fin 8) : encode (.bitM b) = [0xCB, 0b01#2 ++ BitVec.ofNat 3 b.val ++ 0b110#3] := by
  cases b using bit_cases <;> rfl
theorem encode_resR (b : Fin 8) (r : Reg8) :
    encode (.resR b r) = [0xCB, 0b10#2 ++ BitVec.ofNat 3 b.val ++ r.code] := by cases b using bit_cases <;> cases r <;> rfl
theorem encode_resM (b : Fin 8) : encode (.resM b) = [0xCB, 0b10#2 ++ BitVec.ofNat 3 b.val ++ 0b110#3] := by
  cases b using bit_cases <;> rfl
theorem encode_setR (b : Fin 8) (r : Reg8) :
    encode (.setR b r) = [0xCB, 0b11#2 ++ BitVec.ofNat 3 b.val ++ r.code] := by cases b using bit_cases <;> cases r <;> rfl
theorem encode_setM (b : Fin 8) : encode (.setM b) = [0xCB, 0b11#2 ++ BitVec.ofNat 3 b.val ++ 0b110#3] := by
  cases b using bit_cases <;> rfl

theorem exec_rotR (s : State) (op : RotOp) (r : Reg8) : exec (.rotR op r) s = done 8 (s.rotReg op r) := by
  cases op <;> cases r <;> rfl
theorem exec_rotM (s : State) (op : RotOp) : exec (.rotM op) s = done 16 (s.rotMem op) := by cases op <;> rfl
theorem exec_bitR (s : State) (b : Fin 8) (r : Reg8) : exec (.bitR b r) s = done 8 (s.bitReg b r) := by
  cases b using bit_cases <;> cases r <;> rfl
theorem exec_bitM (s : State) (b : Fin 8) : exec (.bitM b) s = done 12 (s.bitMem b) := by cases b using bit_cases <;> rfl
theorem exec_resR (s : State) (b : Fin 8) (r : Reg8) : exec (.resR b r) s = done 8 (s.resReg b r) := by
  cases b using bit_cases <;> cases r <;> rfl
theorem exec_resM (s : State) (b : Fin 8) : exec (.resM b) s = done 16 (s.resMem b) := by cases b using bit_cases <;> rfl
theorem exec_setR (s : State) (b : Fin 8) (r : Reg8) : exec (.setR b r) s = done 8 (s.setReg b r) := by
  cases b using bit_cases <;> cases r <;> rfl
theorem exec_setM (s : State) (b : Fin 8) : exec (.setM b) s = done 16 (s.setMem b) := by cases b using bit_cases <;> rfl

/-! ### The results of the rotates and shifts as the rules write them -/

/-- The rotates of eight bits are the library's (R324, R326). -/
theorem rotValue_rlc (v : Byte) (cf : Bool) : rotValue .rlc v cf = v.rotateLeft 1 := rfl
theorem rotValue_rrc (v : Byte) (cf : Bool) : rotValue .rrc v cf = v.rotateRight 1 := rfl

theorem rotValue_sla (v : Byte) (cf : Bool) : rotValue .sla v cf = BitVec.ofNat 8 (2 * v.toNat) := by
  rw [rotValue]
  bv_omega

theorem rotValue_srl (v : Byte) (cf : Bool) : rotValue .srl v cf = BitVec.ofNat 8 (v.toNat / 2) := by
  rw [rotValue]
  bv_omega

/-- Setting a bit that is clear adds its value. -/
theorem or_twoPow_eq_add {w : Nat} {x : BitVec w} {i : Nat} (h : x.getLsbD i = false) :
    x ||| BitVec.twoPow w i = x + BitVec.twoPow w i := by
  refine (BitVec.add_eq_or_of_and_eq_zero _ _ ?_).symm
  rw [BitVec.and_twoPow, h]
  rfl

/-- `RL` is a doubling with the carry added: the shift leaves bit 0 clear for it (R328). -/
theorem rotValue_rl (v : Byte) (cf : Bool) : rotValue .rl v cf = BitVec.ofNat 8 (2 * v.toNat + cf.toNat) := by
  cases cf with
  | false => exact BitVec.or_zero.trans (rotValue_sla v false)
  | true =>
    have hor : v <<< 1 ||| 1#8 = v <<< 1 + 1#8 := or_twoPow_eq_add (i := 0) (by simp)
    show v <<< 1 ||| 1#8 = BitVec.ofNat 8 (2 * v.toNat + 1)
    rw [hor]
    bv_omega

/-- `RR` is a halving with the carry added at the top: the shift leaves bit 7 clear for it (R330). -/
theorem rotValue_rr (v : Byte) (cf : Bool) : rotValue .rr v cf = BitVec.ofNat 8 (v.toNat / 2 + 128 * cf.toNat) := by
  cases cf with
  | false => exact BitVec.or_zero.trans (rotValue_srl v false)
  | true =>
    have hor : v >>> 1 ||| 128#8 = v >>> 1 + 128#8 := or_twoPow_eq_add (i := 7) (by simp)
    show v >>> 1 ||| 128#8 = BitVec.ofNat 8 (v.toNat / 2 + 128)
    rw [hor]
    bv_omega

/-- `SRA` keeps the sign bit: the masked operand puts it back at bit 7 and nothing elsewhere (R334). -/
theorem rotValue_sra (v : Byte) (cf : Bool) : rotValue .sra v cf = v.sshiftRight 1 := by
  ext i hi
  have hmask : (0x80 : Byte)[i] = decide (i = 7) := BitVec.getElem_twoPow (i := 7) hi
  rw [rotValue, BitVec.getElem_or, BitVec.getElem_and, BitVec.getElem_ushiftRight, BitVec.getElem_sshiftRight, hmask]
  by_cases htop : i = 7
  · subst htop
    rw [dif_neg (by decide), BitVec.getLsbD_of_ge v 8 (Nat.le_refl 8), Bool.false_or, decide_eq_true rfl, Bool.and_true]
    rfl
  · rw [dif_pos (by omega), decide_eq_false htop, Bool.and_false, Bool.or_false, BitVec.getLsbD_eq_getElem]

/-- `SWAP` puts the low nibble above the high one (R336). -/
theorem rotValue_swap (v : Byte) (cf : Bool) : rotValue .swap v cf = v.extractLsb' 0 4 ++ v.extractLsb' 4 4 := by
  have hhigh : v <<< 4 = (v.extractLsb' 0 4).shiftLeftZeroExtend 4 := by
    rw [← BitVec.toNat_inj]
    simp only [BitVec.toNat_shiftLeft, BitVec.toNat_shiftLeftZeroExtend, BitVec.extractLsb'_toNat, Nat.shiftRight_zero]
    omega
  have hlow : v >>> 4 = (v.extractLsb' 4 4).setWidth' (by decide : 4 ≤ 4 + 4) := by
    rw [← BitVec.toNat_inj]
    simp only [BitVec.toNat_ushiftRight, BitVec.setWidth'_eq, BitVec.toNat_setWidth, BitVec.extractLsb'_toNat]
    omega
  rw [rotValue, hhigh, hlow]
  rfl

/-! ### The rotates and shifts of the secondary table -/

/-- What the rules say of a rotate or shift with result `res` and new carry `c`: the encoding and the next state from `s`, on
every register and on the byte at `HL` (R324 to R339). -/
def RotatesBy (s : State) (op : RotOp) (res : Byte → Byte) (c : Byte → Bool) : Prop :=
  (∀ r : Reg8,
    encode (.rotR op r) = [0xCB, 0b00#2 ++ op.code ++ r.code]
    ∧ exec (.rotR op r) s
        = .next { s with
            regs := { s.regs.set8 r (res (s.regs.get8 r)) with
              f := ⟨decide (res (s.regs.get8 r) = 0), false, false, c (s.regs.get8 r)⟩ }
            cost := 8 })
  ∧ encode (.rotM op) = [0xCB, 0b00#2 ++ op.code ++ 0b110#3]
  ∧ exec (.rotM op) s
      = .next { (s.touch8 s.regs.hl).write8 s.regs.hl (res (s.read8 s.regs.hl)) with
          regs := { s.regs with
            f := ⟨decide (res (s.read8 s.regs.hl) = 0), false, false, c (s.read8 s.regs.hl)⟩ }
          cost := 16 }

/-- The rows of `op` rotate by its result with the carry of `s`, whatever way the result is written. -/
theorem rotatesBy {s : State} {op : RotOp} {res : Byte → Byte} (hres : ∀ v, rotValue op v s.regs.f.cf = res v) :
    RotatesBy s op res (rotCarry op) := by
  obtain rfl : (rotValue op · s.regs.f.cf) = res := funext hres
  exact ⟨fun r => ⟨encode_rotR op r, exec_rotR s op r⟩, encode_rotM op, (exec_rotM s op).trans (done_modifyHl 16 s _ _)⟩

/-- Settles O19: on `A` the result alone is left to show; the secondary table's rows rotate by theirs. -/
theorem rotates : Obligations.Rotates := by
  intro s a cf after form
  have hacc {op : RotOp} {res : Byte} (hres : rotValue op a cf = res) :
      done 4 (s.rotA op) = .next (after res (rotCarry op a)) := by
    subst hres
    rfl
  exact ⟨⟨rfl, rfl, rfl, rfl⟩,
    hacc (rotValue_rlc a cf), hacc (rotValue_rrc a cf), hacc (rotValue_rl a cf), hacc (rotValue_rr a cf),
    rotatesBy (rotValue_rlc · cf), rotatesBy (rotValue_rrc · cf), rotatesBy (rotValue_rl · cf), rotatesBy (rotValue_rr · cf)⟩

/-- Settles O20: the rows rotate by their results. -/
theorem secondaryShifts : Obligations.SecondaryShifts := fun s =>
  ⟨rotatesBy (rotValue_sla · s.regs.f.cf), rotatesBy (rotValue_sra · s.regs.f.cf),
    rotatesBy (rotValue_swap · s.regs.f.cf), rotatesBy (rotValue_srl · s.regs.f.cf)⟩

/-! ### Testing, clearing and setting a bit -/

/-- `Zf` of `BIT` is the complement of the bit, the parity of the byte shifted down to it (R340). -/
theorem bitFlags_eq (b : Fin 8) (v : Byte) (f : Flags) :
    bitFlags b v f = ⟨decide (v.toNat / 2 ^ b.val % 2 = 0), false, true, f.cf⟩ := by
  have hzero : (!v.getLsbD b.val) = decide (v.toNat / 2 ^ b.val % 2 = 0) := by
    rw [BitVec.getLsbD, Nat.testBit_eq_decide_div_mod_eq, ← decide_not, decide_eq_decide]
    omega
  rw [bitFlags, hzero]

/-- The mask of `RES` and `SET` before the complement: bit `b` alone. -/
theorem getLsbD_bitMask (b k : Fin 8) : (1#8 <<< b.val).getLsbD k.val = decide (k = b) := by
  rw [← BitVec.twoPow_eq, BitVec.getLsbD_twoPow, decide_eq_true b.isLt, Bool.true_and, decide_eq_decide, Fin.ext_iff, eq_comm]

theorem getLsbD_resBit (b : Fin 8) (v : Byte) (k : Fin 8) :
    (resBit b v).getLsbD k.val = (decide (k ≠ b) && v.getLsbD k.val) := by
  have hones : (0xFF : Byte).getLsbD k.val = true := (BitVec.getLsbD_allOnes ..).trans (decide_eq_true k.isLt)
  rw [resBit, BitVec.getLsbD_and, BitVec.getLsbD_xor, getLsbD_bitMask, hones, Bool.true_xor, decide_not, Bool.and_comm]

theorem getLsbD_setBit (b : Fin 8) (v : Byte) (k : Fin 8) :
    (setBit b v).getLsbD k.val = (decide (k = b) || v.getLsbD k.val) := by
  rw [setBit, BitVec.getLsbD_or, getLsbD_bitMask, Bool.or_comm]

/-- Settles O21, by the bits of the results and the next state of each form; the read at `HL` leaves the register file. -/
theorem bitInstructions : Obligations.BitInstructions := by
  intro s b r fl res set
  have hfl (v : Byte) : bitFlags b v s.regs.f = fl v := bitFlags_eq b v s.regs.f
  exact ⟨fun v k => ⟨getLsbD_resBit b v k, getLsbD_setBit b v k⟩,
    encode_bitR b r, by rw [exec_bitR, State.bitReg, hfl]; rfl,
    encode_bitM b, by rw [exec_bitM, State.bitMem, State.setFlags, State.touch8_regs, hfl]; rfl,
    encode_resR b r, exec_resR s b r, encode_resM b, exec_resM s b,
    encode_setR b r, exec_setR s b r, encode_setM b, exec_setM s b⟩

/-! ### The escape byte -/

/-- The escape row and the rows of the secondary table name the same operations by the fields of the second byte (R385). -/
theorem exec_secondary (s : State) (op2 : Byte) : exec (secondary op2) s = s.secondaryEntry op2 := by
  unfold secondary State.secondaryEntry
  cases Reg8.ofField (fieldZ op2) with
  | some r => simp only [apply_ite (exec · s), exec_rotR, exec_bitR, exec_resR, exec_setR]
  | none => simp only [apply_ite (exec · s), exec_rotM, exec_bitM, exec_resM, exec_setM]

/-- Fetching behind the escape byte reads the second byte too (R385). -/
theorem State.fetchInstr_of_escape {s : State} (h : primary s.fetchByte = .cbOp) :
    s.fetchInstr = (secondary s.fetched.fetchByte, s.fetched.fetched) := by
  unfold State.fetchInstr
  rw [h]

/-- Only the value 6 of the register field names no register (R143). -/
theorem ofField_eq_none_iff : ∀ z : BitVec 3, Reg8.ofField z = none ↔ z = 6 := by
  decide

/-- The cost of an entry is 8 on a register, and at `HL` 12 for `BIT`, which does not store, and 16 for the others (R347). -/
theorem State.secondaryEntry_cost (s : State) (op2 : Byte) :
    ∃ t, s.secondaryEntry op2 = .next t
      ∧ t.cost = if fieldZ op2 ≠ 6 then 8 else if fieldX op2 = 1 then 12 else 16 := by
  have hz := ofField_eq_none_iff (fieldZ op2)
  unfold State.secondaryEntry
  cases hr : Reg8.ofField (fieldZ op2) with
  | some r =>
    rw [if_pos fun h => Option.some_ne_none r (hr.symm.trans (hz.2 h))]
    dsimp only
    repeat' split
    all_goals exact ⟨_, rfl, rfl⟩
  | none =>
    rw [if_neg (absurd (hz.1 hr))]
    dsimp only
    by_cases h0 : fieldX op2 = 0
    · rw [h0]
      exact ⟨_, rfl, rfl⟩
    rw [if_neg h0]
    repeat' split
    all_goals exact ⟨_, rfl, rfl⟩

/-- Settles O26: the escape row's meaning, its decoding, its fetch and the cost of its entries. -/
theorem escapeByteRunsSecondaryTable : Obligations.EscapeByteRunsSecondaryTable :=
  ⟨fun op2 s => (exec_secondary s op2).symm, fun op2 rest => decode_operands 0xCB op2 0 rest,
    fun s h => State.fetchInstr_of_escape (congrArg primary h),
    fun op2 s => by rw [exec_secondary]; exact s.secondaryEntry_cost op2⟩

end Sys2Proof.Machine

/-!
SUPPORT. Control transfer: the rows of the opcode table by their operands, the two outcomes of a conditional instruction, and
the next state of a relative jump, a call and a return (file 45 of the spec).
-/
namespace Sys2Proof.Machine

/-! ### The rows by their operands -/

theorem encode_jpCc (cc : Cond) (nn : Word) :
    encode (.jpCc cc nn) = [0b110#3 ++ cc.code ++ 0b010#3, loByte nn, hiByte nn] := by cases cc <;> rfl
theorem encode_jrCc (cc : Cond) (e : Byte) : encode (.jrCc cc e) = [0b001#3 ++ cc.code ++ 0b000#3, e] := by cases cc <;> rfl
theorem encode_callCc (cc : Cond) (nn : Word) :
    encode (.callCc cc nn) = [0b110#3 ++ cc.code ++ 0b100#3, loByte nn, hiByte nn] := by cases cc <;> rfl
theorem encode_retCc (cc : Cond) : encode (.retCc cc) = [0b110#3 ++ cc.code ++ 0b000#3] := by cases cc <;> rfl
theorem encode_rst (y : Fin 8) : encode (.rst y) = [0b11#2 ++ BitVec.ofNat 3 y.val ++ 0b111#3] := by
  cases y using bit_cases <;> rfl

theorem exec_jpCc (s : State) (cc : Cond) (nn : Word) :
    exec (.jpCc cc nn) s = done (s.costIf cc 16 12) (s.jumpIf cc nn) := by cases cc <;> rfl
theorem exec_jrCc (s : State) (cc : Cond) (e : Byte) :
    exec (.jrCc cc e) s = done (s.costIf cc 12 8) (s.jumpRelIf cc e) := by cases cc <;> rfl
theorem exec_callCc (s : State) (cc : Cond) (nn : Word) :
    exec (.callCc cc nn) s = done (s.costIf cc 24 12) (s.callIf cc nn) := by cases cc <;> rfl
theorem exec_retCc (s : State) (cc : Cond) : exec (.retCc cc) s = done (s.costIf cc 20 8) (s.returnIf cc) := by
  cases cc <;> rfl
theorem exec_rst (s : State) (y : Fin 8) : exec (.rst y) s = done 16 (s.call (rstTarget y)) := by
  cases y using bit_cases <;> rfl

/-! ### The two outcomes of a conditional instruction -/

/-- The condition chooses the transfer and its cost together (R730). -/
theorem done_costIf (s t : State) (cc : Cond) (taken notTaken : Nat) :
    done (s.costIf cc taken notTaken) (if s.regs.f.holds cc then t else s)
      = .next (if s.regs.f.holds cc then t.withCost taken else s.withCost notTaken) := by
  unfold State.costIf
  split <;> rfl

/-! ### The next state of a transfer -/

theorem State.jumpRel_eq (s : State) (e : Byte) :
    s.jumpRel e
      = s.setPc (BitVec.ofInt 16
          ((s.regs.pc.toNat : Int) + (if e.toNat < 0x80 then (e.toNat : Int) else (e.toNat : Int) - 256))) :=
  congrArg s.setPc (add_signExtend_eq_ofInt s.regs.pc e)

/-- The stores of the return address leave the register file, so `SP` and `PC` are all that changes in it. -/
theorem State.call_eq (s : State) (nn : Word) :
    s.call nn
      = { (s.write8 (s.regs.sp - 1) (hiByte s.regs.pc)).write8 (s.regs.sp - 2) (loByte s.regs.pc) with
          regs := { s.regs with sp := s.regs.sp - 2, pc := nn } } := by
  unfold State.call State.setPc
  rw [State.push16_regs, State.push16_eq]
  rfl

/-- The reads of the return address leave the register file, so `SP` and `PC` are all that changes in it. -/
theorem State.returnFrom_eq (s : State) :
    s.returnFrom
      = { (s.touch8 s.regs.sp).touch8 (s.regs.sp + 1) with
          regs := { s.regs with pc := s.read8 (s.regs.sp + 1) ++ s.read8 s.regs.sp, sp := s.regs.sp + 2 } } := by
  unfold State.returnFrom State.popped State.touch16 State.setPc
  rw [State.setSp_regs, State.touch8_regs, State.touch8_regs]
  rfl

/-! ### The obligations of control transfer -/

/-- Settles O22: each form sets `PC` to its target, the relative ones to the signed sum; the condition chooses the outcome. -/
theorem jumps : Obligations.Jumps := by
  intro s cc nn e f go taken rel
  have hrel : s.jumpRel e = s.setPc rel := s.jumpRel_eq e
  have hjp : exec (.jpCc cc nn) s = .next (if taken then go nn 16 else go s.regs.pc 12) :=
    (exec_jpCc s cc nn).trans (done_costIf s (s.setPc nn) cc 16 12)
  have hjr : exec (.jrCc cc e) s = .next (if taken then go rel 12 else go s.regs.pc 8) := by
    rw [exec_jrCc, State.jumpRelIf, hrel]
    exact done_costIf s (s.setPc rel) cc 12 8
  exact ⟨⟨rfl, encode_jpCc cc nn, rfl, rfl, encode_jrCc cc e⟩, rfl, hjp, rfl, congrArg (done 12) hrel, hjr⟩

/-- Settles O23, by the state after a call; a restart is a call of its fixed target. -/
theorem callsAndRestarts : Obligations.CallsAndRestarts := by
  intro s cc nn y f taken call
  have hcc : exec (.callCc cc nn) s = .next (if taken then call nn 24 else { s with cost := 12 }) := by
    rw [exec_callCc, State.callIf, State.call_eq]
    exact done_costIf s _ cc 24 12
  have hrst : exec (.rst y) s = .next (call (BitVec.ofNat 16 (8 * y.val)) 16) := by
    rw [exec_rst, rstTarget, Nat.mul_comm, State.call_eq]
    rfl
  exact ⟨⟨rfl, encode_callCc cc nn, encode_rst y⟩, congrArg (done 24) (s.call_eq nn), hcc, hrst⟩

/-- Settles O24, by the state after a return; `RETI` differs in `IME` alone. -/
theorem returns : Obligations.Returns := by
  intro s cc f taken back
  have hcc : exec (.retCc cc) s = .next (if taken then back 20 else { s with cost := 8 }) := by
    rw [exec_retCc, State.returnIf, State.returnFrom_eq]
    exact done_costIf s _ cc 20 8
  exact ⟨⟨rfl, encode_retCc cc, rfl⟩, congrArg (done 16) s.returnFrom_eq, hcc,
    congrArg (fun t : State => done 16 { t with ime := true }) s.returnFrom_eq⟩

end Sys2Proof.Machine

/-!
SUPPORT. The step that fetches: what the fetch reads and leaves under each format, with and without the halt bug, the step as
the instruction fetched with the deferred enable and the three advances behind it, and what each instruction does to `IME` and
the deferred enable (file 46 of the spec, R400 to R405).
-/
namespace Sys2Proof.Machine

/-! ### Fetching under each format -/

theorem State.fetched_of_haltBug {s : State} (h : s.haltBug = true) :
    s.fetched = { s.touch8 s.regs.pc with haltBug := false } :=
  if_pos ((s.touch8_haltBug _).trans h)

theorem State.fetched_of_noHaltBug {s : State} (h : s.haltBug = false) :
    s.fetched = (s.touch8 s.regs.pc).setPc (s.regs.pc + 1) := by
  have hbug : (s.touch8 s.regs.pc).haltBug ≠ true := by simp [h]
  refine (if_neg hbug).trans ?_
  rw [State.touch8_regs]

/-- A byte read does not depend on the halt bug. -/
theorem State.clearHaltBug_read8 (s : State) (a : Word) : State.read8 { s with haltBug := false } a = s.read8 a :=
  State.read8_congr (s := s) rfl rfl (fun _ => rfl) rfl rfl rfl rfl rfl rfl (fun r => by cases r <;> rfl) a

/-- A fetch leaves every byte of memory. -/
@[simp] theorem State.fetched_read8 (s : State) (a : Word) : s.fetched.read8 a = s.read8 a := by
  cases h : s.haltBug with
  | true => rw [State.fetched_of_haltBug h, State.clearHaltBug_read8, State.touch8_read8]
  | false => rw [State.fetched_of_noHaltBug h, State.setPc_read8, State.touch8_read8]

/-- A mapped cell's fetch answers the cell's instruction of the bytes that follow, after as many fetches as the cell is long
(R141, R145). -/
theorem State.fetchInstr_of_mapped {s : State} {e : Entry} (h : primary s.fetchByte = e) (he : e.isIllegal = false) :
    s.fetchInstr = (e.instr s.fetched.fetchByte (pairOf s.fetched.fetched.fetchByte s.fetched.fetchByte),
      Nat.repeat State.fetched e.length s) := by
  unfold State.fetchInstr
  rw [h]
  cases e with
  | illegal _ => cases he
  | _ => rfl

/-! ### The halt bug

The first fetch leaves `PC` and disarms the bug, so the second reads the same byte; from there on `PC` advances (R381). -/

theorem State.fetched_pc_of_haltBug {s : State} (h : s.haltBug = true) : s.fetched.regs.pc = s.regs.pc := by
  rw [State.fetched_of_haltBug h]
  exact congrArg Regs.pc (s.touch8_regs _)

theorem State.fetchByte_fetched_of_haltBug {s : State} (h : s.haltBug = true) : s.fetched.fetchByte = s.fetchByte := by
  rw [State.fetchByte, State.fetched_read8, State.fetched_pc_of_haltBug h, State.fetchByte]

theorem State.fetched_fetched_of_haltBug {s : State} (h : s.haltBug = true) :
    s.fetched.fetched = (s.fetched.touch8 s.regs.pc).setPc (s.regs.pc + 1) := by
  have hbug : s.fetched.haltBug = false := by rw [State.fetched_of_haltBug h]
  rw [State.fetched_of_noHaltBug hbug, State.fetched_pc_of_haltBug h]

/-- A read does not look at `PC`. -/
theorem State.setPc_touch8 (s : State) (v a : Word) : (s.setPc v).touch8 a = (s.touch8 a).setPc v := by
  rw [State.setPc, State.setPc, State.touch8_regs]
  exact State.withRegs_touch8 s _ a

theorem State.fetched_setPc_of_noHaltBug {s : State} (v : Word) (h : s.haltBug = false) :
    (s.setPc v).fetched = (s.touch8 v).setPc (v + 1) := by
  rw [State.fetched_of_noHaltBug (s := s.setPc v) h, State.setPc_touch8]
  rfl

theorem State.fetched_fetched_fetched_of_haltBug {s : State} (h : s.haltBug = true) :
    s.fetched.fetched.fetched = ((s.fetched.touch8 s.regs.pc).touch8 (s.regs.pc + 1)).setPc (s.regs.pc + 2) := by
  have hbug : (s.fetched.touch8 s.regs.pc).haltBug = false := by rw [State.touch8_haltBug, State.fetched_of_haltBug h]
  rw [State.fetched_fetched_of_haltBug h, State.fetched_setPc_of_noHaltBug _ hbug, BitVec.add_assoc]
  rfl

/-- With the halt bug armed the operand byte is the opcode byte, and so is the low half of an operand word (R9, R381). -/
theorem State.fetchInstr_of_haltBug {s : State} {e : Entry} (hbug : s.haltBug = true) (h : primary s.fetchByte = e)
    (he : e.isIllegal = false) :
    s.fetchInstr
      = (e.instr s.fetchByte (pairOf (s.read8 (s.regs.pc + 1)) s.fetchByte), Nat.repeat State.fetched e.length s) := by
  have hnext : s.fetched.fetched.fetchByte = s.read8 (s.regs.pc + 1) := by
    rw [State.fetchByte, State.fetched_read8, State.fetched_read8, State.fetched_fetched_of_haltBug hbug]
    rfl
  rw [State.fetchInstr_of_mapped h he, State.fetchByte_fetched_of_haltBug hbug, hnext]

/-! ### The step that fetches -/

/-- The state with the wait state left: line 4 of R400 where the step goes on to fetch. -/
def State.awake (s : State) : State := { s with halted := false }

@[simp] theorem State.awake_regs (s : State) : s.awake.regs = s.regs := rfl
@[simp] theorem State.awake_haltBug (s : State) : s.awake.haltBug = s.haltBug := rfl
@[simp] theorem State.awake_cart (s : State) : s.awake.cart = s.cart := rfl
@[simp] theorem State.awake_window (s : State) (a : Word) : s.awake.window a = s.window a := rfl

theorem State.awake_touch8 (s : State) (a : Word) : s.awake.touch8 a = (s.touch8 a).awake := by
  unfold State.touch8 State.cartTouch
  rw [State.awake_window, State.awake_cart]
  cases s.window a with
  | cartRam => cases s.cart.ramTarget a <;> rfl
  | _ => rfl

theorem State.awake_fetchByte (s : State) : s.awake.fetchByte = s.fetchByte :=
  State.read8_congr (s := s) (t := s.awake) rfl rfl (fun _ => rfl) rfl rfl rfl rfl rfl rfl (fun r => by cases r <;> rfl) _

theorem State.awake_fetched (s : State) : s.awake.fetched = s.fetched.awake := by
  unfold State.fetched
  simp only [State.awake_regs, State.awake_touch8, State.awake_haltBug]
  split <;> rfl

/-- A fetch does not look at the wait state. -/
theorem State.awake_fetchInstr (s : State) : s.awake.fetchInstr = (s.fetchInstr.1, s.fetchInstr.2.awake) := by
  unfold State.fetchInstr
  simp only [State.awake_fetchByte, State.awake_fetched]
  cases primary s.fetchByte with
  | illegal i => exact congrArg (Prod.mk i) (s.awake_touch8 s.regs.pc)
  | _ => rfl

/-- Where the step fetches, the wait state is not entered or something pending ends it (R403). -/
theorem State.wake_of_fetches {s : State} (h : s.Fetches) : s.wake = s.awake := by
  obtain ⟨-, -, -, hwait⟩ := h
  unfold State.wake
  split
  · rfl
  · rename_i hpend
    have hhalted : s.halted = false := hwait.resolve_right hpend
    rw [State.awake, ← hhalted]

/-- Where the step fetches, nothing is serviced (R420). -/
theorem State.serviced_of_fetches {s : State} (h : s.Fetches) : s.awake.serviced = none := by
  obtain ⟨-, -, hquiet, -⟩ := h
  show (if s.ime then lowestSource s.pend else none) = none
  rcases hquiet with hime | hpend
  · rw [hime]; rfl
  · rw [hpend]; exact ite_self none

/-- Lines 1 to 6 of R400 pass such a step on to the fetch. -/
theorem State.cpuStep_of_fetches {s : State} (h : s.Fetches) : s.cpuStep = s.awake.runInstruction := by
  have hwake := State.wake_of_fetches h
  have hserviced := State.serviced_of_fetches h
  obtain ⟨hfault, hstall, -, -⟩ := h
  unfold State.cpuStep
  rw [hfault, hwake, hserviced]
  exact if_neg (not_not_intro hstall)

/-- A step whose instruction completes is that instruction, the deferred enable and the three advances (R400, R405, R440). -/
theorem step_of_exec_next {s t : State} (hf : s.hostPhase.Fetches)
    (hx : exec s.hostPhase.awake.fetchInstr.1 s.hostPhase.awake.fetchInstr.2 = .next t) :
    step s = .next (t.retire s.hostPhase.eiPending).advancePeripherals := by
  unfold step State.stepOnce
  rw [State.cpuStep_of_fetches hf, State.runInstruction, hx]
  rfl

/-- Every step that fetches and completes is one of these. -/
theorem exec_of_step_next {s t : State} (hf : s.hostPhase.Fetches) (ht : step s = .next t) :
    ∃ v, exec s.hostPhase.fetchInstr.1 s.hostPhase.fetchInstr.2.awake = .next v
      ∧ t = (v.retire s.hostPhase.eiPending).advancePeripherals := by
  rcases exec_cases s.hostPhase.awake.fetchInstr.1 s.hostPhase.awake.fetchInstr.2 with ⟨v, hv⟩ | ⟨-, op, hop⟩
  · rw [step_of_exec_next hf hv] at ht
    cases ht
    rw [State.awake_fetchInstr] at hv
    exact ⟨v, hv, rfl⟩
  · unfold step State.stepOnce at ht
    rw [State.cpuStep_of_fetches hf, State.runInstruction, hop] at ht
    cases ht

theorem State.retire_cost (s : State) (arm : Bool) : (s.retire arm).cost = s.cost := by
  unfold State.retire
  split <;> rfl

/-- Settles O30: the fetches with the halt bug armed, format by format, and the step that runs what was fetched. -/
theorem haltBugRepeatsTheByte : Obligations.HaltBugRepeatsTheByte := by
  refine ⟨fun s hbug => ?_, fun s t hf _ _ => ?_⟩
  · intro b pc once twice
    have honce : s.fetched = once := State.fetched_of_haltBug hbug
    have htwice : s.fetched.fetched = twice := by rw [State.fetched_fetched_of_haltBug hbug, honce]
    have hthrice : s.fetched.fetched.fetched = ((once.touch8 pc).touch8 (pc + 1)).setPc (pc + 2) := by
      rw [State.fetched_fetched_fetched_of_haltBug hbug, honce]
    have hcell {e : Entry} (he : primary b = e) (hm : e.isIllegal = false) :
        s.fetchInstr = (e.instr b (s.read8 (pc + 1) ++ b), Nat.repeat State.fetched e.length s) :=
      State.fetchInstr_of_haltBug hbug he hm
    have hescape (hb : b = 0xCB) : s.fetchInstr = (.set_1_E, twice) := by
      rw [hcell (e := .cbOp) (congrArg primary hb) rfl, hb]
      exact congrArg (Prod.mk _) htwice
    exact ⟨honce, State.fetchByte_fetched_of_haltBug hbug,
      fun i hi => (hcell hi rfl).trans (congrArg (Prod.mk i) honce),
      fun f hf => (hcell hf rfl).trans (congrArg (Prod.mk (f b)) htwice),
      fun f hf => (hcell hf rfl).trans (congrArg (Prod.mk (f b)) htwice),
      fun f hf => (hcell hf rfl).trans (congrArg (Prod.mk (f b)) htwice),
      fun f hf => (hcell hf rfl).trans (congrArg (Prod.mk (f _)) hthrice), hescape,
      fun i hi => State.fetchInstr_of_illegal hi⟩
  · intro h hx v
    have hcost : v.cost = t.cost := t.retire_cost h.eiPending
    rw [← hcost]
    exact step_of_exec_next hf hx

/-! ### Unmapped bytes -/

/-- An unmapped byte's row raises the decode fault of that byte (R390). -/
theorem exec_of_illegal {op : Byte} {i : Instr} (s : State) (h : primary op = .illegal i) :
    exec i s = s.raiseDecodeFault op := by
  have hrows : ∀ op ∈ unmappedBytes, exec ((primary op).row 0 0) s = s.raiseDecodeFault op := by
    simp only [unmappedBytes, List.forall_mem_cons]
    exact ⟨rfl, rfl, rfl, rfl, rfl, rfl, rfl, rfl, rfl, rfl, rfl, nofun⟩
  have hrow := hrows op ((primary_illegal_iff op).1 ⟨i, h⟩)
  rw [h] at hrow
  exact hrow

/-- A step that fetches an unmapped byte raises its decode fault at `PC`, where the fetch leaves it (R400 line 9). -/
theorem step_of_unmapped {s : State} (hf : s.hostPhase.Fetches) (hop : s.hostPhase.fetchByte ∈ unmappedBytes) :
    step s = (s.hostPhase.touch8 s.hostPhase.regs.pc).awake.raiseDecodeFault s.hostPhase.fetchByte := by
  obtain ⟨i, hi⟩ := (primary_illegal_iff _).2 hop
  unfold step State.stepOnce
  rw [State.cpuStep_of_fetches hf, State.runInstruction, State.awake_fetchInstr, State.fetchInstr_of_illegal hi,
    exec_of_illegal _ hi]
  rfl

/-- A recorded fault is reported by every later step, after the host's calls (R410). -/
theorem step_of_fault {s : State} {pc : Word} {op : Byte} (h : s.fault = some (pc, op)) :
    step s = reportFault pc op s.hostPhase := by
  unfold step State.stepOnce State.cpuStep
  rw [State.hostPhase_fault, h]
  rfl

/-- Settles O27: the rows by their meanings; a step on one raises the fault it then keeps on reporting. -/
theorem unmappedBytesFault : Obligations.UnmappedBytesFault := by
  refine ⟨fun s => ⟨rfl, rfl, rfl, rfl, rfl, rfl, rfl, rfl, rfl, rfl, rfl⟩, fun s hf hop => ?_⟩
  intro h op t
  have hpc : (h.touch8 h.regs.pc).awake.regs.pc = h.regs.pc := congrArg Regs.pc (h.touch8_regs _)
  refine ⟨?_, step_of_fault rfl⟩
  rw [step_of_unmapped hf hop, State.raiseDecodeFault, hpc]
  rfl

/-! ### The instructions of the engine -/

/-- R381, with the pending and enabled mask written out (R400 line 3). -/
theorem State.halt_eq (s : State) :
    s.halt = if s.ime = false ∧ s.ie.setWidth 5 &&& s.iflag ≠ 0#5 then { s with haltBug := true }
      else { s with halted := true } := by
  have hcond : (!s.ime && decide (s.pend ≠ 0)) = true ↔ s.ime = false ∧ s.ie.setWidth 5 &&& s.iflag ≠ 0#5 := by
    rw [Bool.and_eq_true, Bool.not_eq_true', decide_eq_true_iff]
    rfl
  exact ite_congr (propext hcond) (fun _ => rfl) (fun _ => rfl)

/-- Settles O25, by the meaning and the encoding of each row; `HALT` by its two cases. -/
theorem engineInstructions : Obligations.EngineInstructions := by
  intro s pad
  refine ⟨⟨rfl, rfl, rfl, rfl, rfl⟩, rfl, rfl, ?_, rfl, rfl⟩
  show done 4 s.halt = _
  rw [State.halt_eq]
  split <;> rfl

/-! ### `IME` and the deferred enable -/

/-- `IME` and the deferred enable. -/
def State.enables (s : State) : Bool × Bool := (s.ime, s.eiPending)

/-- Register changes, reads and stores leave both. -/
theorem execPlain_enables (x : Bool × Bool) : ExecPlain (fun t => t.enables = x) where
  regs _ h := h
  cost _ h := h
  touch a h := by simpa [State.enables] using h
  write a v h := by simpa [State.enables] using h

theorem State.fetchInstr_enables (s : State) : s.fetchInstr.2.enables = s.enables :=
  fetchInstr_closed (execPlain_enables s.enables) id rfl

/-- Only `DI` takes back a deferred enable (R383, R405). -/
theorem exec_eiPending {i : Instr} {s t : State} (hdi : i ≠ .di) (hs : s.eiPending = true) (ht : exec i s = .next t) :
    t.eiPending = true := by
  cases hi : i.onEngine with
  | false => exact (congrArg Prod.snd (exec_plain (execPlain_enables s.enables) rfl hi ht)).trans hs
  | true =>
    cases i with
    | halt =>
      cases ht
      show s.halt.eiPending = true
      unfold State.halt
      split <;> exact hs
    | reti =>
      cases ht
      exact (congrArg Prod.snd ((execPlain_enables s.enables).returnFrom rfl)).trans hs
    | ei => cases ht; rfl
    | stop _ => cases ht; exact hs
    | di => exact absurd rfl hdi
    | illegal_D3 | illegal_DB | illegal_DD | illegal_E3 | illegal_E4 | illegal_EB | illegal_EC | illegal_ED | illegal_F4
      | illegal_FC | illegal_FD => cases ht
    | _ => cases hi

theorem ppuBlind_enables : PpuBlind State.enables := ⟨fun _ _ => rfl, fun _ => rfl, fun _ => rfl, fun _ _ => rfl⟩

/-- The three advances leave both. -/
theorem State.advancePeripherals_enables (s : State) : s.advancePeripherals.enables = s.enables := by
  unfold State.advancePeripherals
  obtain ⟨a, h, heq⟩ := State.apuAdvance_eq s.cost ((s.timerAdvance s.cost).ppuAdvance s.cost)
  rw [heq]
  refine (ppuBlind_enables.ppuAdvance s.cost (s.timerAdvance s.cost)).trans ?_
  unfold State.timerAdvance State.timerReload
  dsimp only
  split <;> rfl

/-- Line 11 of R400: an enable that was deferred before the fetch and still is takes effect (R405). -/
theorem State.retire_enables (s : State) (arm : Bool) :
    (s.retire arm).enables = if arm ∧ s.eiPending then (true, false) else s.enables := by
  unfold State.retire
  split <;> rfl

/-- Settles O33: the two after the instruction, then line 11 of R400; the peripherals leave them. -/
theorem enableIsDeferredByOneInstruction : Obligations.EnableIsDeferredByOneInstruction := by
  intro s t hf _ ht h
  obtain ⟨v, hv, hstep⟩ := exec_of_step_next hf ht
  have hime : h.fetchInstr.2.awake.ime = h.ime := congrArg Prod.fst h.fetchInstr_enables
  have hei : h.fetchInstr.2.awake.eiPending = h.eiPending := congrArg Prod.snd h.fetchInstr_enables
  have hend : t.enables = if h.eiPending ∧ v.eiPending then (true, false) else v.enables := by
    rw [hstep, State.advancePeripherals_enables, State.retire_enables]
  refine ⟨fun hnone hi => ?_, fun harm hi => ?_, fun hi => ?_⟩
  · rw [hi] at hv
    cases hv
    have hkept : t.enables = (h.fetchInstr.2.awake.ime, true) := hend.trans (if_neg (by simp [hnone]))
    exact Prod.mk.inj (hkept.trans (congrArg (·, true) hime))
  · have hstill : v.eiPending = true := exec_eiPending hi (hei.trans harm) hv
    exact Prod.mk.inj (hend.trans (if_pos ⟨harm, hstill⟩))
  · rw [hi] at hv
    cases hv
    exact Prod.mk.inj (hend.trans (if_neg fun hboth => nomatch hboth.2))

end Sys2Proof.Machine

/-!
SUPPORT. One batch of the timer in closed form: the reload, then so many ticks of `TIMA` (R454, R455).
-/
namespace Sys2Proof.Machine

theorem Timer.tick_eq (t : Timer) :
    t.tick = { t with
      tima := BitVec.ofNat 8 (t.tima.toNat + 1)
      overflowPending := t.overflowPending || decide (t.tima.toNat + 1 ≥ 256) } := by
  have hlt := t.tima.isLt
  unfold Timer.tick
  split
  case isTrue hmax =>
    rw [hmax]
    simp
  case isFalse hmax =>
    have hno : ¬ t.tima.toNat + 1 ≥ 256 := by bv_omega
    have hsum : t.tima + 1 = BitVec.ofNat 8 (t.tima.toNat + 1) := by bv_omega
    rw [decide_eq_false hno, Bool.or_false, hsum]

/-- `k` ticks add `k` to `TIMA` modulo 256 and remember whether it overflowed. -/
theorem Timer.ticks_eq : ∀ (k : Nat) (t : Timer),
    t.ticks k = { t with
      tima := BitVec.ofNat 8 (t.tima.toNat + k)
      overflowPending := t.overflowPending || decide (t.tima.toNat + k ≥ 256) }
  | 0, t => by
    have hlt := t.tima.isLt
    have hno : ¬ t.tima.toNat ≥ 256 := by omega
    simp [Timer.ticks, hno]
  | k + 1, t => by
    have hlt := t.tima.isLt
    have hsum : BitVec.ofNat 8 ((t.tima.toNat + 1) % 256 + k) = BitVec.ofNat 8 (t.tima.toNat + (k + 1)) :=
      BitVec.eq_of_toNat_eq (by simp only [BitVec.toNat_ofNat]; omega)
    have hover : (t.tima.toNat + 1 ≥ 256 ∨ (t.tima.toNat + 1) % 256 + k ≥ 256) ↔ t.tima.toNat + (k + 1) ≥ 256 := by omega
    rw [Timer.ticks, Timer.ticks_eq k, Timer.tick_eq]
    simp only [BitVec.toNat_ofNat, Nat.reducePow, hsum, Bool.or_assoc, ← Bool.decide_or, hover]

theorem Timer.count_eq {t : Timer} {period : Nat} (hp : t.period = period) (n : Nat) :
    let k := if t.tac.getLsbD 2 then (t.tsub + n) / period else 0
    t.count n = { t with
      tsub := if t.tac.getLsbD 2 then (t.tsub + n) % period else t.tsub
      tima := BitVec.ofNat 8 (t.tima.toNat + k)
      overflowPending := t.overflowPending || decide (t.tima.toNat + k ≥ 256) } := by
  subst hp
  unfold Timer.count
  split
  · exact Timer.ticks_eq _ _
  · exact Timer.ticks_eq 0 t

theorem State.timerReload_eq (s : State) :
    s.timerReload = { s with
      iflag := if s.timer.overflowPending then s.iflag ||| 0b00100#5 else s.iflag
      timer := { s.timer with
        tima := if s.timer.overflowPending then s.timer.tma else s.timer.tima
        overflowPending := false } } := by
  unfold State.timerReload
  split
  case isTrue => rfl
  case isFalse hnone => rw [← eq_false_of_ne_true hnone]

/-- Settles O46: the reload, then the closed form of the count. -/
theorem timerBatch : Obligations.TimerBatch := by
  intro s n t base period k
  let reloaded : Timer := { t with sysclk := t.sysclk + BitVec.ofNat 16 n, tima := base, overflowPending := false }
  have hperiod : reloaded.period = period := reloaded.period_eq
  unfold State.timerAdvance
  rw [State.timerReload_eq]
  exact congrArg
    (fun u => { s with iflag := if t.overflowPending then s.iflag ||| 0b00100#5 else s.iflag, timer := u })
    (Timer.count_eq hperiod n)

end Sys2Proof.Machine

/-!
SUPPORT. What every step keeps of the timer, of the cartridge clock and of the stall, and why the engine is never stalled and
waiting together: a DMA is started by a store, the wait state is entered by an instruction that stores nothing.
-/
namespace Sys2Proof.Machine

/-! ### The timer, the cartridge clock and the stall -/

/-- What a step keeps whatever the engine does: the timer's and the cartridge clock's parts of the invariant, and the two
lengths a stall has. -/
def TimingInv (s : State) : Prop :=
  TimerInv s ∧ (s.cart.rtcAnchor ≤ s.host.now ∧ s.cart.bankMode = false)
    ∧ (s.dmaStall = 0 ∨ s.dmaStall = dmaStallCycles)

theorem Timer.period_pos (t : Timer) : 0 < t.period := by
  unfold Timer.period
  split <;> decide

/-- The anchor moves by whole seconds and stays in the past (R520, R521). -/
theorem Cart.advanceTo_rtcAnchor_le {c : Cart} {now : Nat} (h : c.rtcAnchor ≤ now) : (c.advanceTo now).rtcAnchor ≤ now := by
  unfold Cart.advanceTo
  split
  · exact h
  · have hseconds := Nat.div_mul_le_self (now - c.rtcAnchor) 1000000
    show c.rtcAnchor + (now - c.rtcAnchor) / 1000000 * 1000000 ≤ now
    omega

namespace TimingInv

variable {s : State}

theorem rtcAdvance (h : TimingInv s) : TimingInv s.rtcAdvance := by
  obtain ⟨htimer, ⟨hanchor, hmode⟩, hstall⟩ := h
  have hnow : s.cart.rtcAnchor ≤ s.nextNow := Nat.le_trans hanchor (Nat.le_add_right ..)
  exact ⟨htimer, ⟨Cart.advanceTo_rtcAnchor_le hnow, (s.cart.advanceTo_bankMode _).trans hmode⟩, hstall⟩

theorem touch8 (a : Word) (h : TimingInv s) : TimingInv (s.touch8 a) := by
  rcases s.touch8_cases a with he | he <;> rw [he]
  · exact h
  · exact h.rtcAdvance

/-- The fresh anchor of a clock that is un-halted is the time just read (R524). -/
theorem rtcWrite (f : RtcField) (v : Byte) (h : TimingInv s) : TimingInv (s.rtcWrite f v) := by
  obtain ⟨htimer, ⟨hanchor, hmode⟩, hstall⟩ := h.rtcAdvance
  unfold State.rtcWrite
  dsimp only
  split
  · exact ⟨htimer, ⟨Nat.le_refl _, hmode⟩, hstall⟩
  · exact ⟨htimer, ⟨hanchor, hmode⟩, hstall⟩

theorem latchWrite (v : Byte) (h : TimingInv s) : TimingInv (s.latchWrite v) := by
  unfold State.latchWrite
  dsimp only
  split
  · exact h.rtcAdvance
  · exact h

theorem cartWrite (a : Word) (v : Byte) (h : TimingInv s) : TimingInv (s.cartWrite a v) := by
  unfold State.cartWrite
  split
  · exact h
  split
  · exact h
  split
  · exact h
  split
  · exact h
  split
  · exact h.latchWrite v
  unfold State.ramWindowWrite
  split
  · exact h
  · exact h.rtcWrite _ v
  · exact h

theorem dmaCopy (v : Byte) : ∀ (k i : Nat) {s : State}, TimingInv s → TimingInv (s.dmaCopy v i k)
  | 0, _, _, h => h
  | k + 1, i, s, h => by
    have hread : TimingInv (s.touch8 (dmaSource v i)) := h.touch8 _
    unfold State.dmaCopy
    exact dmaCopy v k (i + 1) hread

/-- A DMA is the one store that stalls (R121). -/
theorem dmaWrite (v : Byte) (h : TimingInv s) : TimingInv (s.dmaWrite v) := by
  have hcopy := dmaCopy v dmaLen 0 h
  rw [State.dmaWrite_eq]
  generalize s.dmaCopy v 0 dmaLen = t at hcopy ⊢
  obtain ⟨htimer, hcart, -⟩ := hcopy
  exact ⟨htimer, hcart, .inr rfl⟩

theorem ppuBlind : PpuBlind TimingInv := ⟨fun _ _ => rfl, fun _ => rfl, fun _ => rfl, fun _ _ => rfl⟩

theorem evalStat (h : TimingInv s) : TimingInv s.evalStat := by
  rw [ppuBlind.evalStat]
  exact h

theorem writeLcdc (v : Byte) (h : TimingInv s) : TimingInv (s.writeLcdc v) := by
  unfold State.writeLcdc
  dsimp only
  split
  · exact h
  split
  · exact evalStat (s := { s with ppu := Ppu.switchOn { s.ppu with lcdc := v } }) h
  · exact h

theorem ioWrite (r : IoReg) (v : Byte) (h : TimingInv s) : TimingInv (s.ioWrite r v) := by
  cases r with
  | tac =>
    obtain ⟨-, hrest⟩ := h
    exact ⟨Nat.mod_lt _ (Timer.period_pos _), hrest⟩
  | lcdc => exact h.writeLcdc v
  | stat => exact evalStat (s := { s with ppu := { s.ppu with statEn := v.extractLsb' 3 4 } }) h
  | lyc => exact evalStat (s := { s with ppu := { s.ppu with lyc := v } }) h
  | dma => exact h.dmaWrite v
  | boot =>
    unfold State.ioWrite
    dsimp only
    split <;> exact h
  | _ => exact h

theorem write8 (a : Word) (v : Byte) (h : TimingInv s) : TimingInv (s.write8 a v) := by
  unfold State.write8
  cases s.window a with
  | boot | cartRom | cartRam => exact h.cartWrite a v
  | oam =>
    dsimp only
    split <;> exact h
  | io =>
    dsimp only
    split
    · exact h.ioWrite _ v
    · exact h
  | _ => exact h

theorem hostCall (c : HostCall) (h : TimingInv s) : TimingInv (s.hostCall c) := by
  cases c with
  | press b =>
    show TimingInv (s.buttonPress b)
    unfold State.buttonPress
    split <;> exact h
  | release b => exact h
  | saveRequest =>
    show TimingInv s.saveRequest
    unfold State.saveRequest
    split
    · exact h
    · exact h.rtcAdvance

theorem applyCalls : ∀ (cs : List (Nat × HostCall)) {s : State}, TimingInv s → TimingInv (State.applyCalls cs s)
  | [], _, h => h
  | (_, c) :: rest, _, h => by
    unfold State.applyCalls
    split
    · exact applyCalls rest (h.hostCall c)
    · exact h

/-- The remainder of a batch stays below the period (R454). -/
theorem timerAdvance (n : Nat) (h : TimingInv s) : TimingInv (s.timerAdvance n) := by
  obtain ⟨htimer, hrest⟩ := h
  have hperiod := s.timer.period_eq
  have hbelow : (if s.timer.tac.getLsbD 2 then (s.timer.tsub + n) % s.timer.period else s.timer.tsub) < s.timer.period := by
    split
    · exact Nat.mod_lt _ s.timer.period_pos
    · exact htimer
  rw [timerBatch s n]
  rw [← hperiod]
  exact ⟨hbelow, hrest⟩

theorem apuAdvance : ∀ (n : Nat) {s : State}, TimingInv s → TimingInv (s.apuAdvance n)
  | 0, _, h => h
  | n + 1, s, h => apuAdvance n (s := s.apuCycle) h

theorem stepClosed : StepClosed TimingInv where
  exec :=
    { regs := fun _ h => h
      cost := fun _ h => h
      touch := fun a h => h.touch8 a
      write := fun a v h => h.write8 a v
      ime := fun _ h => h
      ei := fun _ h => h
      bug := fun h => h
      fault := fun _ h => h }
  wait _ h := h
  noBug h := h
  iflag _ h := h
  unstall h := ⟨h.1, h.2.1, .inl rfl⟩
  host h := applyCalls _ h
  timer n h := h.timerAdvance n
  ppu n h := by rw [ppuBlind.ppuAdvance]; exact h
  apu n h := apuAdvance n h

end TimingInv

/-! ### Stalled and waiting -/

/-- What tells the stalled and the waiting engine apart. -/
def State.hold (s : State) : Nat × Bool := (s.dmaStall, s.halted)

/-- Stalled and waiting never hold together (R431). -/
def State.Apart (s : State) : Prop := s.dmaStall ≠ 0 → s.halted = false

theorem State.hold_eq_iff {s t : State} : t.hold = s.hold ↔ t.dmaStall = s.dmaStall ∧ t.halted = s.halted :=
  Prod.ext_iff

theorem State.Apart.of_hold_eq {s t : State} (h : s.Apart) (he : t.hold = s.hold) : t.Apart := by
  obtain ⟨hstall, hhalted⟩ := State.hold_eq_iff.1 he
  rw [State.Apart, hstall, hhalted]
  exact h

theorem State.Apart.of_stall {s : State} (h : s.dmaStall = 0) : s.Apart := fun hne => absurd h hne

theorem State.Apart.of_halted {s : State} (h : s.halted = false) : s.Apart := fun _ => h

theorem State.hostCall_hold (s : State) (c : HostCall) : (s.hostCall c).hold = s.hold := by
  cases c with
  | press b =>
    show (s.buttonPress b).hold = s.hold
    unfold State.buttonPress
    split <;> rfl
  | release b => rfl
  | saveRequest =>
    show s.saveRequest.hold = s.hold
    unfold State.saveRequest
    split <;> rfl

theorem State.applyCalls_hold : ∀ (cs : List (Nat × HostCall)) (s : State), (State.applyCalls cs s).hold = s.hold
  | [], _ => rfl
  | (_, c) :: rest, s => by
    unfold State.applyCalls
    split
    · exact (State.applyCalls_hold rest (s.hostCall c)).trans (s.hostCall_hold c)
    · rfl

theorem State.hostPhase_hold (s : State) : s.hostPhase.hold = s.hold := State.applyCalls_hold s.host.calls s

theorem ppuBlind_hold : PpuBlind State.hold := ⟨fun _ _ => rfl, fun _ => rfl, fun _ => rfl, fun _ _ => rfl⟩

theorem State.advancePeripherals_hold (s : State) : s.advancePeripherals.hold = s.hold := by
  unfold State.advancePeripherals
  obtain ⟨a, h, heq⟩ := State.apuAdvance_eq s.cost ((s.timerAdvance s.cost).ppuAdvance s.cost)
  rw [heq]
  refine (ppuBlind_hold.ppuAdvance s.cost (s.timerAdvance s.cost)).trans ?_
  rw [timerBatch s s.cost]
  rfl

theorem State.fetched_dmaStall (s : State) : s.fetched.dmaStall = s.dmaStall := by
  unfold State.fetched
  dsimp only
  split
  · exact s.touch8_dmaStall _
  · exact s.touch8_dmaStall _

theorem State.fetchInstr_dmaStall (s : State) : s.fetchInstr.2.dmaStall = s.dmaStall := by
  unfold State.fetchInstr
  cases primary s.fetchByte with
  | illegal i => exact s.touch8_dmaStall _
  | _ => simp only [State.fetched_dmaStall]

theorem State.wake_dmaStall (s : State) : s.wake.dmaStall = s.dmaStall := by
  unfold State.wake
  split <;> rfl

/-- Register changes, reads and stores leave the wait state. -/
theorem execPlain_halted (b : Bool) : ExecPlain (fun t => t.halted = b) where
  regs _ h := h
  cost _ h := h
  touch a h := (State.touch8_halted _ a).trans h
  write a v h := (State.write8_halted _ a v).trans h

theorem State.fetchInstr_halted (s : State) : s.fetchInstr.2.halted = s.halted :=
  fetchInstr_closed (execPlain_halted s.halted) id rfl

/-- Servicing ends the wait state (R423), even where the push starts a DMA. -/
theorem State.service_halted (s : State) (i : IntSource) : (s.service i).halted = false :=
  (execPlain_halted false).push16 _ rfl

theorem State.retire_hold (s : State) (arm : Bool) : (s.retire arm).hold = s.hold := by
  unfold State.retire
  split <;> rfl

/-- Only an instruction that acts on the engine enters the wait state, and it starts no DMA. -/
theorem exec_apart {i : Instr} {s t : State} (hstall : s.dmaStall = 0) (hhalted : s.halted = false)
    (ht : exec i s = .next t) : t.Apart := by
  cases hi : i.onEngine with
  | false =>
    obtain ⟨-, hkept, -⟩ := onlyEngineInstructionsChangeTheEngine i s t hi ht
    exact .of_halted (hkept.trans hhalted)
  | true =>
    have hkept : t.unstored = s.unstored := exec_onEngine_unstored hi (congrArg stateAfter ht)
    exact .of_stall ((congrArg State.dmaStall hkept).trans hstall)

/-- The engine part of a step leaves the two apart, in each of the ways it ends. -/
theorem cpuStep_apart {s t : State} (h : s.Apart) (ht : stateAfter s.cpuStep = some t) : t.Apart := by
  have hfetch : s.wake.fetchInstr.2.dmaStall = s.dmaStall := by rw [State.fetchInstr_dmaStall, State.wake_dmaStall]
  rcases cpuStep_cases s with ⟨pc, op, -, he⟩ | ⟨-, -, he⟩ | ⟨-, -, i, -, he⟩ | ⟨-, hstall, -, -, he⟩
    | ⟨-, hstall, -, hhalted, ⟨v, hv, he⟩ | ⟨op, -, he⟩⟩ <;> rw [he] at ht <;> cases ht
  · exact h
  · exact .of_stall rfl
  · exact .of_halted (s.wake.service_halted i)
  · exact .of_stall (s.wake_dmaStall.trans hstall)
  · exact (exec_apart (hfetch.trans hstall) (s.wake.fetchInstr_halted.trans hhalted) hv).of_hold_eq (v.retire_hold _)
  · exact .of_stall (hfetch.trans hstall)

theorem step_apart {s t : State} (h : s.Apart) (ht : stateAfter (step s) = some t) : t.Apart := by
  have hhost : s.hostPhase.Apart := h.of_hold_eq s.hostPhase_hold
  rcases step_cases ht with ⟨u, hu, rfl⟩ | ⟨pc, op, hu⟩
  · exact (cpuStep_apart hhost (congrArg stateAfter hu)).of_hold_eq u.advancePeripherals_hold
  · exact cpuStep_apart hhost (congrArg stateAfter hu)

/-- Settles O45: the timer, the clock and the length of a stall are kept by every part of a step, and the engine never ends one
both stalled and waiting. -/
theorem stepKeepsTimerClockAndEngine : Obligations.StepKeepsTimerClockAndEngine := by
  intro s t htimer hcart hengine ht
  obtain ⟨htimer', ⟨hanchor, hmode⟩, hstall⟩ :=
    step_closed TimingInv.stepClosed ⟨htimer, ⟨hcart.anchor, hcart.bankMode⟩, hengine.stall⟩ ht
  exact ⟨htimer', ⟨hanchor, hmode⟩, ⟨hstall, step_apart hengine.exclusive ht⟩⟩

end Sys2Proof.Machine

/-!
SUPPORT. The tables and the decoder once more: no mapped byte's cell makes an unmapped row, and what the three bytes at `PC`
decode to.
-/
namespace Sys2Proof

open Machine

/-- The encoding of an unmapped row is its byte. -/
theorem encode_of_unmapped {i : Instr} (hi : i.unmapped = true) : ∃ op ∈ unmappedBytes, encode i = [op] := by
  cases i with
  | illegal_D3 | illegal_DB | illegal_DD | illegal_E3 | illegal_E4 | illegal_EB | illegal_EC | illegal_ED | illegal_F4
    | illegal_FC | illegal_FD => exact ⟨_, by decide, rfl⟩
  | _ => cases hi

/-- A mapped byte's cell makes no unmapped row. -/
theorem Entry.instr_mapped {op : Byte} (n : Byte) (nn : Word) (hop : op ∉ unmappedBytes) :
    ((primary op).instr n nn).unmapped = false := by
  refine eq_false_of_ne_true fun hunmapped => hop ?_
  obtain ⟨op', hmem, henc⟩ := encode_of_unmapped hunmapped
  obtain ⟨-, henc'⟩ := primary_encodes op n nn
  rw [(List.cons.inj (henc'.symm.trans henc)).1]
  exact hmem

theorem Entry.isIllegal_of_mapped {op : Byte} (hop : op ∉ unmappedBytes) : (primary op).isIllegal = false :=
  eq_false_of_ne_true fun h => hop ((primary_illegal_iff op).1 ((Entry.isIllegal_iff _).1 h))

/-- Of two bytes behind the opcode a cell takes its operand bytes. -/
theorem Entry.operands_append_drop (e : Entry) (b c : Byte) :
    e.operands b (pairOf c b) ++ [b, c].drop (e.length - 1) = [b, c] := by
  cases e with
  | opNN f =>
    show [loByte (pairOf c b), hiByte (pairOf c b)] = [b, c]
    rw [loByte_pairOf, hiByte_pairOf]
  | _ => rfl

/-- What three bytes decode to, and how many are left. -/
theorem decode_three {op b c : Byte} {rest : List Byte} {i : Instr} (h : decode [op, b, c] = .ok (i, rest)) :
    i = (primary op).instr b (pairOf c b) ∧ 3 - rest.length = (primary op).length := by
  have hlength := length_of_decode h
  have hdecode := decode_operands op b (pairOf c b) ([b, c].drop ((primary op).length - 1))
  rw [Entry.operands_append_drop, h] at hdecode
  cases hdecode
  refine ⟨rfl, ?_⟩
  simp only [List.length_cons, List.length_nil] at hlength
  omega

end Sys2Proof

/-!
SUPPORT. One step by the way its engine part ends: the stall consumed, an interrupt serviced, the wait state, or one
instruction run; and what the fetch of whole instructions without the halt bug leaves (R400 to R424).
-/
namespace Sys2Proof.Machine

/-! ### The steps that fetch nothing -/

theorem step_of_cpuStep_next {s t : State} (h : s.hostPhase.cpuStep = .next t) : step s = .next t.advancePeripherals := by
  unfold step State.stepOnce
  rw [h]

/-- Line 2 of R400. -/
theorem State.cpuStep_of_stall {s : State} (hfault : s.fault = none) (hstall : s.dmaStall ≠ 0) :
    s.cpuStep = .next { s with dmaStall := 0, cost := s.dmaStall } := by
  unfold State.cpuStep
  rw [hfault]
  exact if_pos hstall

/-- Line 6 of R400: nothing pending ends the wait state. -/
theorem State.cpuStep_of_wait {s : State} (hfault : s.fault = none) (hstall : s.dmaStall = 0) (hhalted : s.halted = true)
    (hpend : s.pend = 0) : s.cpuStep = .next (s.withCost idleCost) := by
  have hwake : s.wake = s := if_neg (not_not_intro hpend)
  have hserviced : s.serviced = none := by
    unfold State.serviced
    rw [hpend]
    exact ite_self none
  unfold State.cpuStep
  rw [hfault, hwake, hserviced, hhalted]
  exact if_neg (not_not_intro hstall)

/-- Servicing does not look at the wait state, which it ends. -/
theorem State.wake_service (s : State) (i : IntSource) : s.wake.service i = s.service i := by
  unfold State.wake
  split <;> rfl

/-- Line 5 of R400. -/
theorem State.cpuStep_of_serviced {s : State} {i : IntSource} (hfault : s.fault = none) (hstall : s.dmaStall = 0)
    (hi : s.serviced = some i) : s.cpuStep = .next ((s.service i).withCost intCost) := by
  have hwake : s.wake.serviced = some i := by
    rw [← hi]
    unfold State.wake
    split <;> rfl
  unfold State.cpuStep
  rw [hfault, hwake, ← State.wake_service]
  exact if_neg (not_not_intro hstall)

/-- Settles O31, by the two lines of the step procedure. -/
theorem stalledAndWaitingSteps : Obligations.StalledAndWaitingSteps := fun _ hfault =>
  ⟨fun hstall => step_of_cpuStep_next (State.cpuStep_of_stall hfault hstall),
    fun hstall hhalted hpend => step_of_cpuStep_next (State.cpuStep_of_wait hfault hstall hhalted hpend)⟩

/-! ### Servicing an interrupt -/

/-- The source of a number (R33). -/
def IntSource.ofFin : Fin 5 → IntSource
  | 0 => .vBlank
  | 1 => .stat
  | 2 => .timer
  | 3 => .serial
  | 4 => .input

theorem IntSource.bit_ofFin (i : Fin 5) : (IntSource.ofFin i).bit = 1#5 <<< i.val := by
  revert i
  decide

theorem IntSource.vector_ofFin (i : Fin 5) : (IntSource.ofFin i).vector = BitVec.ofNat 16 (0x0040 + 8 * i.val) := by
  revert i
  decide

/-- The lowest bit set wins (R422). -/
theorem lowestSource_eq : ∀ (p : BitVec 5) (i : Fin 5), p.getLsbD i.val = true →
    (∀ j : Fin 5, j < i → ¬ p.getLsbD j.val = true) → lowestSource p = some (.ofFin i) := by
  decide

/-- Something pending has a lowest source. -/
theorem lowestSource_ne_none : ∀ p : BitVec 5, p ≠ 0 → lowestSource p ≠ none := by
  decide

theorem State.getLsbD_pend (s : State) (i : Fin 5) :
    s.pend.getLsbD i.val = true ↔ s.ie.getLsbD i.val = true ∧ s.iflag.getLsbD i.val = true := by
  simp [State.pend]

/-- `Service` is the call of the source's vector with its request and `IME` cleared and the wait state left (R423, R424). -/
theorem State.service_eq_call (s : State) (i : IntSource) :
    s.service i = State.call { s with iflag := s.iflag &&& ~~~i.bit, ime := false, halted := false } i.vector := rfl

/-- Settles O32: the source is the lowest one, and servicing it is a call of its vector. -/
theorem interruptService : Obligations.InterruptService := by
  intro s i h hfault hstall hime hi hlower w p v
  have hlowest : lowestSource h.pend = some (.ofFin i) :=
    lowestSource_eq _ i ((h.getLsbD_pend i).2 hi) fun j hj hbit => hlower j hj ((h.getLsbD_pend j).1 hbit)
  have hserviced : h.serviced = some (.ofFin i) := (if_pos hime).trans hlowest
  have hservice : h.service (.ofFin i) = { p with regs := v.regs } := by
    rw [State.service_eq_call, State.call_eq, IntSource.bit_ofFin, IntSource.vector_ofFin]
  have hcpu : h.cpuStep = .next v := by
    rw [State.cpuStep_of_serviced hfault hstall hserviced, hservice]
    rfl
  exact step_of_cpuStep_next hcpu

/-! ### What stops -/

/-- Every instruction but the eleven completes. -/
theorem exec_next_of_mapped {i : Instr} (s : State) (hi : i.unmapped = false) : ∃ t, exec i s = .next t := by
  rcases exec_cases i s with h | ⟨hengine, -⟩
  · exact h
  · cases i with
    | stop _ | halt | reti | di | ei => exact ⟨_, rfl⟩
    | illegal_D3 | illegal_DB | illegal_DD | illegal_E3 | illegal_E4 | illegal_EB | illegal_EC | illegal_ED | illegal_F4
      | illegal_FC | illegal_FD => cases hi
    | _ => cases hengine

/-- Without a fault the engine fetches, or is stalled, takes an interrupt, or waits. -/
theorem State.cpuStep_of_not_fetches {s : State} (hfault : s.fault = none) (hf : ¬ s.Fetches) : ∃ t, s.cpuStep = .next t := by
  by_cases hstall : s.dmaStall = 0
  case neg => exact ⟨_, State.cpuStep_of_stall hfault hstall⟩
  by_cases hquiet : s.ime = false ∨ s.pend = 0
  case neg =>
    obtain ⟨hime, hpend⟩ := not_or.1 hquiet
    obtain ⟨i, hi⟩ := Option.ne_none_iff_exists'.1 (lowestSource_ne_none _ hpend)
    have hserviced : s.serviced = some i := (if_pos (eq_true_of_ne_false hime)).trans hi
    exact ⟨_, State.cpuStep_of_serviced hfault hstall hserviced⟩
  obtain ⟨hhalted, hpend⟩ := not_or.1 fun hwait => hf ⟨hfault, hstall, hquiet, hwait⟩
  exact ⟨_, State.cpuStep_of_wait hfault hstall (eq_true_of_ne_false hhalted) (Decidable.not_not.1 hpend)⟩

/-- A step without a recorded fault that fetches no unmapped byte completes. -/
theorem step_next {s : State} (hfault : s.fault = none)
    (hmapped : ¬ (s.hostPhase.Fetches ∧ s.hostPhase.fetchByte ∈ unmappedBytes)) : ∃ t, step s = .next t := by
  by_cases hf : s.hostPhase.Fetches
  · have hop : s.hostPhase.awake.fetchByte ∉ unmappedBytes := by
      rw [State.awake_fetchByte]
      exact fun hop => hmapped ⟨hf, hop⟩
    have hi : s.hostPhase.awake.fetchInstr.1.unmapped = false := by
      rw [State.fetchInstr_of_mapped rfl (Entry.isIllegal_of_mapped hop)]
      exact Entry.instr_mapped _ _ hop
    obtain ⟨t, ht⟩ := exec_next_of_mapped s.hostPhase.awake.fetchInstr.2 hi
    exact ⟨_, step_of_exec_next hf ht⟩
  · obtain ⟨t, ht⟩ := State.cpuStep_of_not_fetches (s.hostPhase_fault.trans hfault) hf
    exact ⟨_, step_of_cpuStep_next ht⟩

/-- Settles O28: a step reports a recorded fault, meets an unmapped byte, or completes. -/
theorem onlyRecordedFaultsStop : Obligations.OnlyRecordedFaultsStop := by
  refine ⟨fun i s hi => exec_next_of_mapped s hi, fun s => step_next, fun s pc op => step_of_fault, fun s r hr => ?_⟩
  cases hfault : s.fault with
  | some x =>
    rw [step_of_fault hfault] at hr
    cases hr
  | none =>
    by_cases hstops : s.hostPhase.Fetches ∧ s.hostPhase.fetchByte ∈ unmappedBytes
    · rw [step_of_unmapped hstops.1 hstops.2] at hr
      cases hr
    · obtain ⟨t, ht⟩ := step_next hfault hstops
      rw [ht] at hr
      cases hr

/-! ### Fetching without the halt bug -/

theorem State.touchRange_succ (s : State) (a : Word) (k : Nat) :
    s.touchRange a (k + 1) = (s.touchRange a k).touch8 (a + BitVec.ofNat 16 k) := by
  unfold State.touchRange
  rw [List.range_succ, List.foldl_append]
  rfl

theorem State.touchRange_haltBug (s : State) (a : Word) : ∀ k, (s.touchRange a k).haltBug = s.haltBug
  | 0 => rfl
  | k + 1 => by rw [State.touchRange_succ, State.touch8_haltBug, State.touchRange_haltBug s a k]

theorem State.touchRange_read8 (s : State) (a b : Word) : ∀ k, (s.touchRange a k).read8 b = s.read8 b
  | 0 => rfl
  | k + 1 => by rw [State.touchRange_succ, State.touch8_read8, State.touchRange_read8 s a b k]

/-- So many fetches read the bytes at `PC` in order and leave `PC` past them (R9). -/
theorem State.repeat_fetched {s : State} (hbug : s.haltBug = false) : ∀ k,
    Nat.repeat State.fetched k s = (s.touchRange s.regs.pc k).setPc (s.regs.pc + BitVec.ofNat 16 k)
  | 0 => by
    rw [BitVec.add_zero]
    rfl
  | k + 1 => by
    have hnext : s.regs.pc + BitVec.ofNat 16 k + 1 = s.regs.pc + BitVec.ofNat 16 (k + 1) :=
      (BitVec.add_assoc ..).trans (congrArg _ (BitVec.ofNat_add k 1).symm)
    rw [Nat.repeat, State.repeat_fetched hbug k, State.fetched_setPc_of_noHaltBug _ ((s.touchRange_haltBug _ k).trans hbug),
      State.touchRange_succ, hnext]

theorem State.fetchByte_repeat_fetched {s : State} (hbug : s.haltBug = false) (k : Nat) :
    (Nat.repeat State.fetched k s).fetchByte = s.read8 (s.regs.pc + BitVec.ofNat 16 k) := by
  rw [State.repeat_fetched hbug, State.fetchByte, State.setPc_read8, State.touchRange_read8]
  rfl

/-- Without the halt bug a mapped cell's fetch answers the cell's instruction of the two bytes after the opcode. -/
theorem State.fetchInstr_of_noHaltBug {s : State} (hbug : s.haltBug = false) (hop : s.fetchByte ∉ unmappedBytes) :
    s.fetchInstr
      = ((primary s.fetchByte).instr (s.read8 (s.regs.pc + 1)) (pairOf (s.read8 (s.regs.pc + 2)) (s.read8 (s.regs.pc + 1))),
        (s.touchRange s.regs.pc (primary s.fetchByte).length).setPc
          (s.regs.pc + BitVec.ofNat 16 (primary s.fetchByte).length)) := by
  have hfirst : s.fetched.fetchByte = s.read8 (s.regs.pc + 1) := State.fetchByte_repeat_fetched hbug 1
  have hsecond : s.fetched.fetched.fetchByte = s.read8 (s.regs.pc + 2) := State.fetchByte_repeat_fetched hbug 2
  rw [State.fetchInstr_of_mapped rfl (Entry.isIllegal_of_mapped hop), hfirst, hsecond, State.repeat_fetched hbug]

/-- A byte read does not depend on the wait state. -/
theorem State.awake_read8 (s : State) (a : Word) : s.awake.read8 a = s.read8 a :=
  State.read8_congr (s := s) (t := s.awake) rfl rfl (fun _ => rfl) rfl rfl rfl rfl rfl rfl (fun r => by cases r <;> rfl) a

/-- Settles O29: the fetch answers what the decoder answers for the bytes at `PC`, and the rest is the step that fetches. -/
theorem stepRunsDecodedInstruction : Obligations.StepRunsDecodedInstruction := by
  intro s t i rest h pc len hf hbug hop hdecode hx v
  obtain ⟨hi, hlen⟩ := decode_three hdecode
  have hopcode : h.awake.fetchByte = h.read8 pc := h.awake_read8 pc
  have hfetch : h.awake.fetchInstr = (i, (h.awake.touchRange pc len).setPc (pc + BitVec.ofNat 16 len)) := by
    rw [State.fetchInstr_of_noHaltBug (s := h.awake) hbug (hopcode ▸ hop), hopcode, hi, ← hlen, State.awake_read8,
      State.awake_read8]
    rfl
  have hx' : exec h.awake.fetchInstr.1 h.awake.fetchInstr.2 = .next t := by
    rw [hfetch]
    exact hx
  have hcost : v.cost = t.cost := t.retire_cost h.eiPending
  rw [← hcost]
  exact step_of_exec_next hf hx'

end Sys2Proof.Machine

/-!
SUPPORT. The input register bit by bit, and the button ports (R460, R462).
-/
namespace Sys2Proof.Machine

/-- The bits of four flags in a row. -/
theorem getLsbD_fourBits (a b c d : Bool) :
    let x : BitVec 4 := BitVec.ofBool a ++ BitVec.ofBool b ++ BitVec.ofBool c ++ BitVec.ofBool d
    x.getLsbD 3 = a ∧ x.getLsbD 2 = b ∧ x.getLsbD 1 = c ∧ x.getLsbD 0 = d := by
  revert a b c d
  decide

/-- The bits of `P1` by its two fields. -/
theorem getLsbD_p1Bits : ∀ (sel : BitVec 2) (lines : BitVec 4),
    let x : Byte := 0b11#2 ++ sel ++ lines
    x.getLsbD 7 = true ∧ x.getLsbD 6 = true ∧ x.getLsbD 5 = sel.getLsbD 1 ∧ x.getLsbD 4 = sel.getLsbD 0
    ∧ x.getLsbD 3 = lines.getLsbD 3 ∧ x.getLsbD 2 = lines.getLsbD 2 ∧ x.getLsbD 1 = lines.getLsbD 1
    ∧ x.getLsbD 0 = lines.getLsbD 0 := by
  decide

theorem Input.getLsbD_lines (p : Input) :
    p.lines.getLsbD 3 = p.line p.down p.start ∧ p.lines.getLsbD 2 = p.line p.up p.select
    ∧ p.lines.getLsbD 1 = p.line p.left p.bBtn ∧ p.lines.getLsbD 0 = p.line p.right p.aBtn :=
  getLsbD_fourBits ..

theorem Input.pressed_setPressed (p : Input) (b c : Button) (v : Bool) :
    (p.setPressed b v).pressed c = if c = b then v else p.pressed c := by
  cases b <;> cases c <;> rfl

theorem Input.setPressed_sel (p : Input) (b : Button) (v : Bool) : (p.setPressed b v).sel = p.sel := by
  cases b <;> rfl

/-- Settles O47: the port is the register, whose low half is the lines; a button's mark is its own. -/
theorem inputRegisterAndButtons : Obligations.InputRegisterAndButtons := by
  refine ⟨fun s v => ?_, fun s b => ⟨rfl, rfl⟩, fun p b c v => ⟨p.pressed_setPressed b c v, p.setPressed_sel b v⟩⟩
  have hport : MapsTo 0xFF00 .p1 := by decide
  have hread : s.read8 0xFF00 = s.input.readP1 := s.read8_of_mapsTo hport
  obtain ⟨h7, h6, h5, h4, h3, h2, h1, h0⟩ := getLsbD_p1Bits s.input.sel s.input.lines
  obtain ⟨hl3, hl2, hl1, hl0⟩ := s.input.getLsbD_lines
  rw [hread]
  exact ⟨h7, h6, h5, h4, h3.trans hl3, h2.trans hl2, h1.trans hl1, h0.trans hl0, s.write8_of_mapsTo v hport⟩

end Sys2Proof.Machine

/-!
SUPPORT. The cartridge clock: one tick in its four cases, the seconds that ticks add, and what an advance to a time does (R520
to R524).
-/
namespace Sys2Proof.Machine

/-! ### One tick -/

section

variable {r : Rtc}

theorem Rtc.tick_of_second (hs : r.s.toNat ≠ 59) : r.tick = { r with s := BitVec.ofNat 6 (r.s.toNat + 1) } := by
  have hnext : r.s + 1 = BitVec.ofNat 6 (r.s.toNat + 1) := by bv_omega
  unfold Rtc.tick
  rw [if_neg (by bv_omega), hnext]

theorem Rtc.tick_of_minute (hs : r.s.toNat = 59) (hm : r.m.toNat ≠ 59) :
    r.tick = { r with s := 0, m := BitVec.ofNat 6 (r.m.toNat + 1) } := by
  have hnext : r.m + 1 = BitVec.ofNat 6 (r.m.toNat + 1) := by bv_omega
  unfold Rtc.tick Rtc.tickMinute
  dsimp only
  rw [if_pos (by bv_omega), if_neg (by bv_omega), hnext]

theorem Rtc.tick_of_hour (hs : r.s.toNat = 59) (hm : r.m.toNat = 59) (hh : r.h.toNat ≠ 23) :
    r.tick = { r with s := 0, m := 0, h := BitVec.ofNat 5 (r.h.toNat + 1) } := by
  have hnext : r.h + 1 = BitVec.ofNat 5 (r.h.toNat + 1) := by bv_omega
  unfold Rtc.tick Rtc.tickMinute Rtc.tickHour
  dsimp only
  rw [if_pos (by bv_omega), if_pos (by bv_omega), if_neg (by bv_omega), hnext]

theorem Rtc.day_lt (r : Rtc) : r.day < 512 := by
  have hdl := r.dl.isLt
  unfold Rtc.day
  split <;> omega

/-- A new day: day 511 wraps to 0 and sets the carry (R523). -/
theorem Rtc.tickDay_eq (r : Rtc) :
    r.tickDay
      = { r with
          dl := BitVec.ofNat 8 (r.day + 1)
          day8 := decide (256 ≤ r.day + 1 ∧ r.day + 1 < 512)
          carry := r.carry || decide (r.day + 1 = 512) } := by
  unfold Rtc.tickDay
  by_cases hday : r.day + 1 = 512
  · simp [hday]
  · have hlt : r.day + 1 < 512 := by have := r.day_lt; omega
    simp [hday, hlt]

@[simp] theorem Rtc.tickDay_s (r : Rtc) : r.tickDay.s = r.s := by rw [Rtc.tickDay_eq]
@[simp] theorem Rtc.tickDay_m (r : Rtc) : r.tickDay.m = r.m := by rw [Rtc.tickDay_eq]
@[simp] theorem Rtc.tickDay_h (r : Rtc) : r.tickDay.h = r.h := by rw [Rtc.tickDay_eq]
@[simp] theorem Rtc.tickDay_halt (r : Rtc) : r.tickDay.halt = r.halt := by rw [Rtc.tickDay_eq]

theorem Rtc.tick_of_day (hs : r.s.toNat = 59) (hm : r.m.toNat = 59) (hh : r.h.toNat = 23) :
    r.tick = { r with s := 0, m := 0, h := 0 }.tickDay := by
  unfold Rtc.tick Rtc.tickMinute Rtc.tickHour
  dsimp only
  rw [if_pos (by bv_omega), if_pos (by bv_omega), if_pos (by bv_omega)]

@[simp] theorem Rtc.tick_halt (r : Rtc) : r.tick.halt = r.halt := by
  by_cases hs : r.s.toNat = 59
  case neg => rw [Rtc.tick_of_second hs]
  by_cases hm : r.m.toNat = 59
  case neg => rw [Rtc.tick_of_minute hs hm]
  by_cases hh : r.h.toNat = 23
  case neg => rw [Rtc.tick_of_hour hs hm hh]
  rw [Rtc.tick_of_day hs hm hh, Rtc.tickDay_halt]

/-! ### The seconds that ticks add -/

theorem Rtc.day_tickDay (r : Rtc) : r.tickDay.day = (r.day + 1) % 512 := by
  have hlt := r.day_lt
  rw [Rtc.tickDay_eq, Rtc.day]
  generalize r.day = d at hlt
  simp only [BitVec.toNat_ofNat, decide_eq_true_eq]
  split <;> omega

theorem Rtc.InRange.total_lt (h : r.InRange) : r.total < 512 * 86400 := by
  obtain ⟨hs, hm, hh⟩ := h
  have hday := r.day_lt
  unfold Rtc.total
  omega

/-- `t` is the clock `r` by `n` seconds later: the total modulo 512 days, and a carry that stays once set (R522, R523). -/
structure Rtc.LaterBy (r : Rtc) (n : Nat) (t : Rtc) : Prop where
  inRange : t.InRange
  total : t.total = (r.total + n) % (512 * 86400)
  carry : t.carry = (r.carry || decide (r.total + n ≥ 512 * 86400))

theorem Rtc.LaterBy.refl (h : r.InRange) : r.LaterBy 0 r where
  inRange := h
  total := (Nat.mod_eq_of_lt h.total_lt).symm
  carry := by simp [h.total_lt]

theorem Rtc.LaterBy.trans {t u : Rtc} {m n : Nat} (ht : r.LaterBy m t) (hu : t.LaterBy n u) : r.LaterBy (m + n) u where
  inRange := hu.inRange
  total := by rw [hu.total, ht.total, Nat.mod_add_mod, Nat.add_assoc]
  carry := by
    have hcarry : (r.total + (m + n) ≥ 512 * 86400)
        ↔ (r.total + m ≥ 512 * 86400) ∨ ((r.total + m) % (512 * 86400) + n ≥ 512 * 86400) := by omega
    rw [hu.carry, ht.total, ht.carry, decide_eq_decide.2 hcarry, Bool.decide_or, Bool.or_assoc]

/-- A tick without a new day: registers in their ranges whose total is one higher, and the same carry. -/
theorem Rtc.laterBy_one {t : Rtc} {h m s : Nat} (hh : t.h.toNat = h) (hm : t.m.toNat = m) (hs : t.s.toNat = s)
    (hrange : s < 60 ∧ m < 60 ∧ h < 24) (htotal : ((t.day * 24 + h) * 60 + m) * 60 + s = r.total + 1)
    (hcarry : t.carry = r.carry) : r.LaterBy 1 t := by
  subst hh hm hs
  have hlt := Rtc.InRange.total_lt hrange
  have htotal' : r.total + 1 = t.total := htotal.symm
  refine ⟨hrange, ?_, ?_⟩
  · rw [htotal', Nat.mod_eq_of_lt hlt]
  · rw [htotal', hcarry, decide_eq_false (Nat.not_le.2 hlt), Bool.or_false]

/-- Inside the ranges a tick is one second. -/
theorem Rtc.laterBy_tick (hr : r.InRange) : r.LaterBy 1 r.tick := by
  obtain ⟨hs60, hm60, hh24⟩ := hr
  have htotal : r.total = ((r.day * 24 + r.h.toNat) * 60 + r.m.toNat) * 60 + r.s.toNat := rfl
  by_cases hs : r.s.toNat = 59
  case neg =>
    have hnext : (BitVec.ofNat 6 (r.s.toNat + 1)).toNat = r.s.toNat + 1 := Nat.mod_eq_of_lt (by omega)
    rw [Rtc.tick_of_second hs]
    exact Rtc.laterBy_one rfl rfl hnext ⟨by omega, hm60, hh24⟩ (congrArg (· + 1) htotal.symm) rfl
  by_cases hm : r.m.toNat = 59
  case neg =>
    have hnext : (BitVec.ofNat 6 (r.m.toNat + 1)).toNat = r.m.toNat + 1 := Nat.mod_eq_of_lt (by omega)
    rw [Rtc.tick_of_minute hs hm]
    refine Rtc.laterBy_one (s := 0) rfl hnext rfl ⟨by omega, by omega, hh24⟩ ?_ rfl
    show ((r.day * 24 + r.h.toNat) * 60 + (r.m.toNat + 1)) * 60 + 0 = _
    omega
  by_cases hh : r.h.toNat = 23
  case neg =>
    have hnext : (BitVec.ofNat 5 (r.h.toNat + 1)).toNat = r.h.toNat + 1 := Nat.mod_eq_of_lt (by omega)
    rw [Rtc.tick_of_hour hs hm hh]
    refine Rtc.laterBy_one (s := 0) (m := 0) hnext rfl rfl (by omega) ?_ rfl
    show ((r.day * 24 + (r.h.toNat + 1)) * 60 + 0) * 60 + 0 = _
    omega
  rw [Rtc.tick_of_day hs hm hh]
  let z : Rtc := { r with s := 0, m := 0, h := 0 }
  show r.LaterBy 1 z.tickDay
  have hday : z.tickDay.day = (r.day + 1) % 512 := z.day_tickDay
  refine ⟨?_, ?_, ?_⟩
  · rw [Rtc.InRange, Rtc.tickDay_s, Rtc.tickDay_m, Rtc.tickDay_h]
    exact ⟨Nat.zero_lt_succ _, Nat.zero_lt_succ _, Nat.zero_lt_succ _⟩
  · rw [Rtc.total, Rtc.tickDay_s, Rtc.tickDay_m, Rtc.tickDay_h, hday]
    show (((r.day + 1) % 512 * 24 + 0) * 60 + 0) * 60 + 0 = _
    omega
  · have hcarry : r.day + 1 = 512 ↔ r.total + 1 ≥ 512 * 86400 := by
      have hlt := r.day_lt
      omega
    rw [Rtc.tickDay_eq]
    exact congrArg (r.carry || ·) (decide_eq_decide.2 hcarry)

theorem Rtc.laterBy_ticks : ∀ (n : Nat) {r : Rtc}, r.InRange → r.LaterBy n (r.ticks n)
  | 0, _, h => .refl h
  | n + 1, r, h => by
    have htick := Rtc.laterBy_tick h
    have hticks : r.tick.LaterBy n (r.ticks (n + 1)) := Rtc.laterBy_ticks n htick.inRange
    rw [Nat.add_comm n 1] at hticks ⊢
    exact htick.trans hticks

@[simp] theorem Rtc.ticks_halt : ∀ (n : Nat) (r : Rtc), (r.ticks n).halt = r.halt
  | 0, _ => rfl
  | n + 1, r => (Rtc.ticks_halt n r.tick).trans r.tick_halt

end

/-- Settles O51, by induction on the seconds. -/
theorem clockTicksAddSeconds : Obligations.ClockTicksAddSeconds := by
  intro r n h
  have hn := Rtc.laterBy_ticks n h
  exact ⟨hn.inRange, hn.total, hn.carry, Rtc.ticks_halt n r⟩

/-! ### Advancing to a time -/

theorem Rtc.ticks_add : ∀ (m n : Nat) (r : Rtc), r.ticks (m + n) = (r.ticks m).ticks n
  | 0, n, r => by rw [Nat.zero_add]; rfl
  | m + 1, n, r => by
    rw [Nat.add_right_comm]
    exact Rtc.ticks_add m n r.tick

theorem Cart.advanceTo_of_halted {c : Cart} (h : c.rtc.halt = true) (n : Nat) : c.advanceTo n = c := by
  unfold Cart.advanceTo
  rw [if_pos h]

/-- The cartridge with `secs` more seconds on its clock, and its anchor moved by as many. -/
def Cart.tickSeconds (c : Cart) (secs : Nat) : Cart :=
  { c with rtcAnchor := c.rtcAnchor + secs * 1000000, rtc := c.rtc.ticks secs }

theorem Cart.advanceTo_of_running {c : Cart} (h : c.rtc.halt = false) (n : Nat) :
    c.advanceTo n = c.tickSeconds ((n - c.rtcAnchor) / 1000000) := by
  unfold Cart.advanceTo
  rw [if_neg (by simp [h])]
  rfl

theorem Cart.tickSeconds_add (c : Cart) (m n : Nat) : c.tickSeconds (m + n) = (c.tickSeconds m).tickSeconds n := by
  unfold Cart.tickSeconds
  rw [Rtc.ticks_add, Nat.add_mul, Nat.add_assoc]

theorem Cart.advanceTo_advanceTo {c : Cart} {m n : Nat} (hm : c.rtcAnchor ≤ m) (hmn : m ≤ n) :
    (c.advanceTo m).advanceTo n = c.advanceTo n := by
  cases hhalt : c.rtc.halt with
  | true => rw [Cart.advanceTo_of_halted hhalt]
  | false =>
    let d := c.tickSeconds ((m - c.rtcAnchor) / 1000000)
    have hd : d.rtc.halt = false := (Rtc.ticks_halt _ c.rtc).trans hhalt
    have hanchor : d.rtcAnchor = c.rtcAnchor + (m - c.rtcAnchor) / 1000000 * 1000000 := rfl
    have hsecs : (n - c.rtcAnchor) / 1000000 = (m - c.rtcAnchor) / 1000000 + (n - d.rtcAnchor) / 1000000 := by
      rw [hanchor]
      omega
    rw [Cart.advanceTo_of_running hhalt, Cart.advanceTo_of_running hhalt, hsecs, Cart.tickSeconds_add]
    exact Cart.advanceTo_of_running hd n

/-- The anchor of a running clock ends less than a second before the time (R520). -/
theorem Cart.advanceTo_rtcAnchor_bounds {c : Cart} {n : Nat} (hhalt : c.rtc.halt = false) (hn : c.rtcAnchor ≤ n) :
    (c.advanceTo n).rtcAnchor ≤ n ∧ n < (c.advanceTo n).rtcAnchor + 1000000 := by
  have hanchor : (c.advanceTo n).rtcAnchor = c.rtcAnchor + (n - c.rtcAnchor) / 1000000 * 1000000 := by
    rw [Cart.advanceTo_of_running hhalt]
    rfl
  omega

/-- Settles O52: advances add up as their whole seconds do, and one tick is one of its four cases. -/
theorem clockAdvanceSplits : Obligations.ClockAdvanceSplits := by
  refine ⟨fun c m n hm hmn => ⟨Cart.advanceTo_advanceTo hm hmn, fun h => Cart.advanceTo_of_halted h n, fun h => ?_⟩,
    fun s => ⟨Nat.le_add_right .., rfl, fun r n => ⟨?_, rfl, rfl, fun hs => ?_, fun hs hm => ?_, fun hs hm hh => ?_⟩⟩⟩
  · have hrunning := Cart.advanceTo_of_running h n
    obtain ⟨hlow, hhigh⟩ := Cart.advanceTo_rtcAnchor_bounds h (Nat.le_trans hm hmn)
    exact ⟨hlow, hhigh, _, congrArg Cart.rtcAnchor hrunning, hrunning⟩
  · split
    case isTrue hs => exact Rtc.tick_of_second hs
    split
    case isTrue hs hm => exact Rtc.tick_of_minute (not_not.1 hs) hm
    split
    case isTrue hs hm hh => exact Rtc.tick_of_hour (not_not.1 hs) (not_not.1 hm) hh
    case isFalse hs hm hh =>
      exact (Rtc.tick_of_day (not_not.1 hs) (not_not.1 hm) (not_not.1 hh)).trans (Rtc.tickDay_eq _)
  · rw [Rtc.tick_of_second (by omega), hs]
    exact ⟨rfl, rfl⟩
  · rw [Rtc.tick_of_minute hs (by omega), hm]
    exact ⟨rfl, rfl⟩
  · rw [Rtc.tick_of_hour hs hm (by omega), hh]
    exact ⟨rfl, rfl, rfl⟩

end Sys2Proof.Machine

/-!
SUPPORT. Saving and loading the cartridge: what the save data holds after a request, and the clock registers read back from it
(R540 to R542).
-/
namespace Sys2Proof.Machine

/-! ### The clock registers as bytes -/

/-- The three stored bits of `rtc.dh` (R508). -/
theorem Rtc.getLsbD_dh (r : Rtc) :
    r.dh.getLsbD 7 = r.carry ∧ r.dh.getLsbD 6 = r.halt ∧ r.dh.getLsbD 0 = r.day8 := by
  have hbits : ∀ carry halt day8 : Bool,
      let dh : Byte := BitVec.ofBool carry ++ BitVec.ofBool halt ++ 0#5 ++ BitVec.ofBool day8
      dh.getLsbD 7 = carry ∧ dh.getLsbD 6 = halt ∧ dh.getLsbD 0 = day8 := by decide
  exact hbits r.carry r.halt r.day8

theorem setWidth_of_setWidth_byte {w : Nat} (h : w ≤ 8) (x : BitVec w) : (x.setWidth 8).setWidth w = x := by
  rw [BitVec.setWidth_setWidth_of_le x h, BitVec.setWidth_eq]

/-- The registers stored in five bytes, each through its mask (R526). -/
def Rtc.ofBytes (v : RtcField → Byte) : Rtc where
  s := (v .seconds).setWidth 6
  m := (v .minutes).setWidth 6
  h := (v .hours).setWidth 5
  dl := v .dayLow
  day8 := (v .dayHigh).getLsbD 0
  halt := (v .dayHigh).getLsbD 6
  carry := (v .dayHigh).getLsbD 7

theorem Rtc.ofBytes_get (r : Rtc) : Rtc.ofBytes r.get = r := by
  obtain ⟨hcarry, hhalt, hday⟩ := r.getLsbD_dh
  unfold Rtc.ofBytes Rtc.get
  dsimp only
  rw [hcarry, hhalt, hday, setWidth_of_setWidth_byte (by decide), setWidth_of_setWidth_byte (by decide),
    setWidth_of_setWidth_byte (by decide)]

/-- The five bytes determine the registers. -/
theorem Rtc.ext_get {r t : Rtc} (h : ∀ f, r.get f = t.get f) : r = t := by
  rw [← r.ofBytes_get, ← t.ofBytes_get, funext h]

/-- Every stored bit passes the mask of its register. -/
theorem Rtc.get_set_get (z r : Rtc) (f : RtcField) : (z.set f (r.get f)).get f = r.get f := by
  have hset : (z.set f (r.get f)).get f = (Rtc.ofBytes r.get).get f := by cases f <;> rfl
  rw [hset, Rtc.ofBytes_get]

theorem Rtc.get_set_of_ne (z : Rtc) {f g : RtcField} (v : Byte) (h : g ≠ f) : (z.set f v).get g = z.get g := by
  cases f <;> cases g
  case seconds.seconds | minutes.minutes | hours.hours | dayLow.dayLow | dayHigh.dayHigh => exact absurd rfl h
  all_goals rfl

/-! ### The serialized block read back -/

/-- A register's own byte brings it back; padding and a time stamp bring nothing (R542). -/
theorem Rtc.get_loadByte_saveByte (z r : Rtc) (now : Nat) (b : RtcSaveByte) (f : RtcField) :
    (z.loadByte (r.saveByte now b) b).get f = if b = .live f then r.get f else z.get f := by
  cases b with
  | live g =>
    by_cases hg : g = f
    · subst hg
      rw [if_pos rfl]
      exact Rtc.get_set_get z r g
    · rw [if_neg (fun h => hg (RtcSaveByte.live.inj h))]
      exact Rtc.get_set_of_ne z _ (Ne.symm hg)
  | fill _ => rw [if_neg RtcSaveByte.noConfusion]; rfl
  | stamp _ _ => rw [if_neg RtcSaveByte.noConfusion]; rfl

/-- A block read back has the registers it lists; the others stay. -/
theorem Rtc.get_deserialize (r : Rtc) (now : Nat) (save : Memory) (f : RtcField) :
    ∀ (layout : List RtcSaveByte) (a : Nat) (z : Rtc),
    (∀ i (hi : i < layout.length), save.read (a + i) = r.saveByte now layout[i]) →
    (z.deserialize save a layout).get f = if .live f ∈ layout then r.get f else z.get f
  | [], _, _, _ => rfl
  | b :: bs, a, z, h => by
    have hfirst : save.read a = r.saveByte now b := h 0 (Nat.zero_lt_succ _)
    have hrest (i : Nat) (hi : i < bs.length) : save.read (a + 1 + i) = r.saveByte now bs[i] := by
      rw [Nat.add_assoc, Nat.add_comm 1 i]
      exact h (i + 1) (Nat.succ_lt_succ hi)
    show ((z.loadByte (save.read a) b).deserialize save (a + 1) bs).get f = _
    rw [Rtc.get_deserialize r now save f bs (a + 1) _ hrest, hfirst, Rtc.get_loadByte_saveByte]
    by_cases hbs : .live f ∈ bs
    · rw [if_pos hbs, if_pos (List.mem_cons_of_mem b hbs)]
    · rw [if_neg hbs]
      exact if_congr (by simp [hbs, eq_comm]) rfl rfl

/-- A block whose layout lists all five registers brings back the clock. -/
theorem Rtc.deserialize_eq {r : Rtc} {now a : Nat} {save : Memory} {layout : List RtcSaveByte}
    (hall : ∀ f : RtcField, .live f ∈ layout)
    (hsave : ∀ i (hi : i < layout.length), save.read (a + i) = r.saveByte now layout[i]) (z : Rtc) :
    z.deserialize save a layout = r :=
  Rtc.ext_get fun f => (Rtc.get_deserialize r now save f layout a z hsave).trans (if_pos (hall f))

/-! ### The save data -/

/-- Below the cut a splice reads as its low part. -/
theorem Memory.read_splice_of_lt {i n : Nat} (hi : i < n) (high : Memory) :
    ∀ low : Memory, (low.splice high n).read i = low.read i
  | [] => Memory.read_of_lt _ _ fun c hc => by
      have hc' : n ≤ c.1 := of_decide_eq_true (List.mem_filter.1 hc).2
      omega
  | (k, w) :: low => by
    have ih := Memory.read_splice_of_lt hi high low
    by_cases hk : k < n
    · have hcons : Memory.splice ((k, w) :: low) high n = (k, w) :: Memory.splice low high n := by
        simp [Memory.splice, hk]
      rw [hcons, Memory.read, Memory.read, ih]
    · have hskip : Memory.splice ((k, w) :: low) high n = Memory.splice low high n := by
        simp [Memory.splice, hk]
      rw [hskip, Memory.read, if_neg (by omega), ih]

theorem Memory.read_of_below {m : Memory} {n a : Nat} (h : m.below n) (ha : n ≤ a) : m.read a = Memory.blank := by
  induction m with
  | nil => rfl
  | cons c m ih =>
    obtain ⟨hc, hm⟩ := List.forall_mem_cons.1 h
    rw [Memory.read, if_neg (by omega)]
    exact ih hm

theorem State.saveRequest_of_mbc3Rtc {s : State} (h : s.cart.kind = .mbc3Rtc) :
    s.saveRequest
      = { s.rtcAdvance with
          host := { s.rtcAdvance.host with
            save := (s.cart.ram.splice s.host.save (s.cart.ramBanks * 0x2000)).writeAll (s.cart.ramBanks * 0x2000)
              (s.rtcAdvance.cart.rtc.serialize s.nextNow s.par.rtcSaveLayout)
            saveSize := max s.host.saveSize (s.cart.ramBanks * 0x2000 + s.par.rtcSaveLayout.length) } } := by
  unfold State.saveRequest
  rw [h]
  dsimp only
  rw [Cart.ramSize, State.rtcAdvance_cart, Cart.advanceTo_ram, Cart.advanceTo_ramBanks]
  rfl

section

variable {s : State} (hkind : s.cart.kind = .mbc3Rtc) (hram : s.cart.ram.wf) (hsave : s.host.save.wf)

include hkind hram hsave

/-- The RAM bytes come first (R541). -/
theorem State.saveRequest_read_ram {i : Nat} (hi : i < s.cart.ramBanks * 0x2000) :
    s.saveRequest.host.save.read i = s.cart.ram.read i := by
  rw [State.saveRequest_of_mbc3Rtc hkind]
  dsimp only
  rw [Memory.read_writeAll _ _ _ _ (Memory.wf_splice _ hram hsave), if_neg (by omega), Memory.read_splice_of_lt hi]

/-- The clock block comes right after them (R541). -/
theorem State.saveRequest_read_clock {i : Nat} (hi : i < s.par.rtcSaveLayout.length) :
    s.saveRequest.host.save.read (s.cart.ramBanks * 0x2000 + i)
      = s.rtcAdvance.cart.rtc.saveByte s.nextNow s.par.rtcSaveLayout[i] := by
  rw [State.saveRequest_of_mbc3Rtc hkind]
  dsimp only
  rw [Memory.read_writeAll _ _ _ _ (Memory.wf_splice _ hram hsave), Rtc.serialize, List.length_map, if_pos (by omega),
    Nat.add_sub_cancel_left, List.getD_eq_getElem _ _ (by simpa using hi), List.getElem_map]

end

/-! ### Loading what was saved -/

theorem loadedRam_wf (save : List Byte) (size : Nat) : (loadedRam save size).wf := by
  unfold loadedRam
  split
  · exact Memory.wf_writeAll _ _ _ ⟨.nil, by simp⟩
  · exact ⟨.nil, by simp⟩

theorem loadedRam_eq {save : List Byte} {size : Nat} {ram : Memory} (hram : ram.Fits size) (hsize : size ≤ save.length)
    (hsave : ∀ i, i < size → save.getD i 0 = ram.read i) : loadedRam save size = ram := by
  refine Memory.ext_read _ _ (loadedRam_wf save size) hram.1 fun i => ?_
  rw [loadedRam_read hsize]
  split
  case isTrue hi => exact hsave i hi
  case isFalse hi => exact (Memory.read_of_below hram.2 (Nat.le_of_not_lt hi)).symm

theorem loadedRtc_eq {save : List Byte} {size now : Nat} {layout : List RtcSaveByte} {r : Rtc}
    (hall : ∀ f : RtcField, .live f ∈ layout) (hsize : size + layout.length ≤ save.length)
    (hsave : ∀ i (hi : i < layout.length), save.getD (size + i) 0 = r.saveByte now layout[i]) :
    loadedRtc save size layout = r := by
  unfold loadedRtc
  rw [if_pos hsize]
  exact Rtc.deserialize_eq hall (fun i hi => (Memory.read_ofBytes save (size + i)).trans (hsave i hi)) Rtc.zero

/-- Settles O53: the save data hold the RAM and the clock block, and a construction loads both. -/
theorem saveRoundTrip : Obligations.SaveRoundTrip := by
  intro s a hkind hram hsave hall t u n
  have hreadRam (i : Nat) (hi : i < n) : t.host.save.read i = s.cart.ram.read i :=
    State.saveRequest_read_ram hkind hram.1 hsave hi
  have hreadClock (i : Nat) (hi : i < s.par.rtcSaveLayout.length) :
      t.host.save.read (n + i) = s.rtcAdvance.cart.rtc.saveByte s.nextNow s.par.rtcSaveLayout[i] :=
    State.saveRequest_read_clock hkind hram.1 hsave hi
  have ht := State.saveRequest_of_mbc3Rtc hkind
  have hcart : t.cart = s.rtcAdvance.cart := (congrArg State.cart ht :)
  have hsize : n + s.par.rtcSaveLayout.length ≤ t.host.saveSize := by
    have h : t.host.saveSize = max s.host.saveSize (n + s.par.rtcSaveLayout.length) :=
      congrArg (fun v : State => v.host.saveSize) ht
    omega
  refine ⟨⟨hreadRam, hsize, ?_⟩, fun bytes hbytes hlength hread hlayout hkind' hbanks => ?_⟩
  · rw [hcart, State.rtcAdvance_cart, ← s.cart.advanceTo_ram s.nextNow]
  · have hu : u.cart = Cart.construct a := State.construct_cart a
    have hlat : u.cart.lat = u.cart.rtc := by rw [hu]; rfl
    obtain ⟨huram, hurtc⟩ := Cart.construct_mbc3Rtc (hu ▸ hkind')
    rw [← hu, hbytes, hbanks, Option.getD_some] at huram hurtc
    rw [hlayout] at hurtc
    have hload : u.cart.rtc = t.cart.rtc := by
      rw [hurtc, hcart]
      exact loadedRtc_eq hall (hlength ▸ hsize) fun i hi => (hread _ (by omega)).trans (hreadClock i hi)
    refine ⟨?_, hload, hlat.trans hload⟩
    have hlong : n ≤ bytes.length := hlength ▸ Nat.le_trans (Nat.le_add_right ..) hsize
    rw [huram]
    exact loadedRam_eq hram hlong fun i hi => (hread i (Nat.lt_of_lt_of_le hi hlong)).trans (hreadRam i hi)

end Sys2Proof.Machine

/-!
SUPPORT. The cartridge controller: what the ROM windows and the RAM window read and store, and the latches (R503 to R514, R524
to R527).
-/
namespace Sys2Proof.Machine

/-! ### The ROM windows -/

theorem State.window_of_rom {s : State} {a : Word} (hoverlay : s.bootMapped = true → 0x0100 ≤ a.toNat)
    (ha : a.toNat < 0x8000) : s.window a = .cartRom := by
  unfold State.window windowOf
  rw [if_neg (fun h => Nat.not_lt.2 (hoverlay h.1) h.2), if_pos ha]

theorem State.read8_rom {s : State} {a : Word} (hoverlay : s.bootMapped = true → 0x0100 ≤ a.toNat)
    (ha : a.toNat < 0x8000) : s.read8 a = s.cart.romByte (s.cart.romOffset a) := by
  unfold State.read8
  rw [State.window_of_rom hoverlay ha]
  exact if_pos ha

/-- The overlay shades reads alone: a store below 0x8000 reaches the controller (R87). -/
theorem State.write8_rom (s : State) {a : Word} (v : Byte) (ha : a.toNat < 0x8000) : s.write8 a v = s.cartWrite a v := by
  unfold State.write8
  by_cases hboot : s.bootMapped = true ∧ a.toNat < 0x0100
  · rw [State.window_of_overlay hboot.1 hboot.2]
  · rw [State.window_of_rom (fun hmapped => Nat.le_of_not_lt fun hlt => hboot ⟨hmapped, hlt⟩) ha]

/-- A count that is a power of two masks the bank by its remainder (R504). -/
theorem Cart.effRomBank_eq {c : Cart} {k : Nat} (h : c.romBanks = 2 ^ k) :
    c.effRomBank = if c.romBank.toNat % 2 ^ k = 0 then 1 else c.romBank.toNat % 2 ^ k := by
  unfold Cart.effRomBank
  rw [h, Nat.and_two_pow_sub_one_eq_mod]

/-- The effective bank is never bank 0 and is inside a declared count of at least two. -/
theorem Cart.effRomBank_bounds {c : Cart} {k : Nat} (h : c.romBanks = 2 ^ (k + 1)) :
    1 ≤ c.effRomBank ∧ c.effRomBank < 2 ^ (k + 1) := by
  have hcount : 1 < 2 ^ (k + 1) := Nat.one_lt_two_pow (Nat.succ_ne_zero k)
  have hmod : c.romBank.toNat % 2 ^ (k + 1) < 2 ^ (k + 1) := Nat.mod_lt _ (Nat.two_pow_pos _)
  rw [Cart.effRomBank_eq h]
  split <;> omega

theorem Cart.romOffset_of_low (c : Cart) {a : Word} (ha : a.toNat < 0x4000) : c.romOffset a = a.toNat := if_pos ha

theorem Cart.romOffset_of_romOnly {c : Cart} (hkind : c.kind = .romOnly) (a : Word) : c.romOffset a = a.toNat := by
  unfold Cart.romOffset
  rw [hkind]
  exact ite_self _

theorem Cart.romOffset_of_mbc3Rtc {c : Cart} {a : Word} (hkind : c.kind = .mbc3Rtc) (ha : 0x4000 ≤ a.toNat) :
    c.romOffset a = c.effRomBank * 0x4000 + (a.toNat - 0x4000) := by
  have hoff : offsetIn a 0x4000 = a.toNat - 0x4000 := offsetIn_of_le ha
  unfold Cart.romOffset
  rw [if_neg (Nat.not_lt.2 ha), hkind, hoff]

/-! ### What the RAM window reaches -/

/-- With a fixed mapping, the enable off, no bank to select or a code that names nothing, the RAM window reaches nothing. -/
theorem Cart.ramTarget_eq_nothing {c : Cart} (a : Word)
    (h : c.kind = .romOnly ∨ c.ramEnable = false ∨ (c.ramSel.toNat ≤ 3 ∧ c.ramBanks = 0)
      ∨ (4 ≤ c.ramSel.toNat ∧ c.ramSel.toNat ≤ 7) ∨ 13 ≤ c.ramSel.toNat) :
    c.ramTarget a = .nothing := by
  unfold Cart.ramTarget
  cases hkind : c.kind with
  | romOnly => rfl
  | mbc3Rtc =>
    dsimp only
    cases henable : c.ramEnable with
    | false => rfl
    | true =>
      rw [hkind, henable] at h
      rw [if_neg (by decide)]
      rcases h with h | h | ⟨hsel, hbanks⟩ | hcode
      · cases h
      · cases h
      · rw [if_pos hsel, if_pos hbanks]
      · rw [if_neg (by omega), rtcSelected_eq_none _ (by omega)]

theorem Cart.ramTarget_eq_ram {c : Cart} {a : Word} {k : Nat} (hkind : c.kind = .mbc3Rtc) (henable : c.ramEnable = true)
    (hsel : c.ramSel.toNat ≤ 3) (hbanks : c.ramBanks = 2 ^ k) (ha : 0xA000 ≤ a.toNat) :
    c.ramTarget a = .ram (c.ramSel.toNat % 2 ^ k * 0x2000 + (a.toNat - 0xA000)) := by
  have hoff : offsetIn a 0xA000 = a.toNat - 0xA000 := offsetIn_of_le ha
  have hne : 2 ^ k ≠ 0 := (Nat.two_pow_pos k).ne'
  unfold Cart.ramTarget
  rw [hkind, henable, hbanks, hoff, Nat.and_two_pow_sub_one_eq_mod]
  dsimp only
  rw [if_neg (by decide), if_pos hsel, if_neg hne]

/-- The select code of a clock register (R508). -/
def selectCode : RtcField → Nat
  | .seconds => 8
  | .minutes => 9
  | .hours => 10
  | .dayLow => 11
  | .dayHigh => 12

theorem rtcSelected_eq_some : ∀ n : BitVec 4, 8 ≤ n.toNat → n.toNat ≤ 12 →
    ∃ f ∈ [RtcField.seconds, .minutes, .hours, .dayLow, .dayHigh], rtcSelected n = some f ∧ n.toNat = selectCode f := by
  decide

theorem Cart.ramTarget_eq_clock {c : Cart} (a : Word) (hkind : c.kind = .mbc3Rtc) (henable : c.ramEnable = true)
    (hlo : 8 ≤ c.ramSel.toNat) (hhi : c.ramSel.toNat ≤ 12) :
    ∃ f, c.ramTarget a = .clock f ∧ c.ramSel.toNat = selectCode f := by
  obtain ⟨f, -, hf, hsel⟩ := rtcSelected_eq_some c.ramSel hlo hhi
  refine ⟨f, ?_, hsel⟩
  unfold Cart.ramTarget
  rw [hkind, henable, hf]
  dsimp only
  rw [if_neg (by decide), if_neg (by omega)]

/-! ### Reads and stores of the RAM window -/

section

variable {s : State} {a : Word} (hlo : 0xA000 ≤ a.toNat) (hhi : a.toNat < 0xC000)

include hlo hhi

theorem State.window_cartRam : s.window a = .cartRam := s.window_of_bounds (by decide) hlo hhi

theorem State.read8_cartRam : s.read8 a = s.cart.ramWindowRead a := by
  unfold State.read8
  rw [State.window_cartRam hlo hhi]
  exact if_neg (by omega)

theorem State.touch8_cartRam : s.touch8 a = s.cartTouch a := by
  unfold State.touch8
  rw [State.window_cartRam hlo hhi]

/-- A store from the RAM window goes to what the window reaches; with a fixed mapping that is nothing. -/
theorem State.write8_cartRam (v : Byte) : s.write8 a v = s.ramWindowWrite a v := by
  unfold State.write8 State.cartWrite
  rw [State.window_cartRam hlo hhi]
  dsimp only
  cases hkind : s.cart.kind with
  | romOnly =>
    unfold State.ramWindowWrite
    rw [Cart.ramTarget_eq_nothing a (.inl hkind)]
  | mbc3Rtc =>
    dsimp only
    rw [if_neg (by omega), if_neg (by omega), if_neg (by omega), if_neg (by omega)]

theorem State.cartRam_of_nothing (v : Byte) (h : s.cart.ramTarget a = .nothing) :
    s.read8 a = 0xFF ∧ s.touch8 a = s ∧ s.write8 a v = s := by
  rw [State.read8_cartRam hlo hhi, State.touch8_cartRam hlo hhi, State.write8_cartRam hlo hhi]
  unfold Cart.ramWindowRead State.cartTouch State.ramWindowWrite
  rw [h]
  exact ⟨rfl, rfl, rfl⟩

theorem State.cartRam_of_ram (v : Byte) {off : Nat} (h : s.cart.ramTarget a = .ram off) :
    s.read8 a = s.cart.ram.read off ∧ s.touch8 a = s
    ∧ s.write8 a v = { s with cart := { s.cart with ram := s.cart.ram.write off v } } := by
  rw [State.read8_cartRam hlo hhi, State.touch8_cartRam hlo hhi, State.write8_cartRam hlo hhi]
  unfold Cart.ramWindowRead State.cartTouch State.ramWindowWrite
  rw [h]
  exact ⟨rfl, rfl, rfl⟩

theorem State.cartRam_of_clock (v : Byte) {f : RtcField} (h : s.cart.ramTarget a = .clock f) :
    s.read8 a = s.cart.lat.get f ∧ s.touch8 a = s.rtcAdvance ∧ s.write8 a v = s.rtcWrite f v := by
  rw [State.read8_cartRam hlo hhi, State.touch8_cartRam hlo hhi, State.write8_cartRam hlo hhi]
  unfold Cart.ramWindowRead State.cartTouch State.ramWindowWrite
  rw [h]
  exact ⟨rfl, rfl, rfl⟩

end

/-! ### The clock registers by select code -/

/-- The bits of `rtc.dh` by the three flags (R508). -/
theorem Rtc.dh_eq (r : Rtc) :
    r.dh = (if r.carry then 0x80 else 0) ||| (if r.halt then 0x40 else 0) ||| (if r.day8 then 0x01 else 0) := by
  have hbits : ∀ carry halt day8 : Bool,
      (BitVec.ofBool carry ++ BitVec.ofBool halt ++ 0#5 ++ BitVec.ofBool day8 : Byte)
        = (if carry then 0x80 else 0) ||| (if halt then 0x40 else 0) ||| (if day8 then 0x01 else 0) := by decide
  exact hbits r.carry r.halt r.day8

theorem Rtc.get_eq_ite (r : Rtc) (f : RtcField) :
    r.get f
      = if selectCode f = 8 then r.s.setWidth 8 else if selectCode f = 9 then r.m.setWidth 8
        else if selectCode f = 10 then r.h.setWidth 8 else if selectCode f = 11 then r.dl
        else (if r.carry then 0x80 else 0) ||| (if r.halt then 0x40 else 0) ||| (if r.day8 then 0x01 else 0) := by
  cases f with
  | dayHigh => exact r.dh_eq
  | _ => rfl

theorem Rtc.set_eq_ite (r : Rtc) (f : RtcField) (v : Byte) :
    r.set f v
      = if selectCode f = 8 then { r with s := v.extractLsb' 0 6 }
        else if selectCode f = 9 then { r with m := v.extractLsb' 0 6 }
        else if selectCode f = 10 then { r with h := v.extractLsb' 0 5 }
        else if selectCode f = 11 then { r with dl := v }
        else { r with carry := v.getLsbD 7, halt := v.getLsbD 6, day8 := v.getLsbD 0 } := by
  have h6 : v.setWidth 6 = v.extractLsb' 0 6 := BitVec.setWidth_eq_extractLsb' (by decide)
  have h5 : v.setWidth 5 = v.extractLsb' 0 5 := BitVec.setWidth_eq_extractLsb' (by decide)
  unfold Rtc.set
  rw [h6, h5]
  cases f <;> rfl

/-- Only a write of `rtc.dh` with its halt bit clear un-halts the clock (R524). -/
theorem Rtc.unhalts_iff (r : Rtc) (f : RtcField) (v : Byte) :
    (r.halt && !(r.set f v).halt) = true ↔ selectCode f = 12 ∧ r.halt = true ∧ v.getLsbD 6 = false := by
  cases f with
  | dayHigh => simp [Rtc.set, Rtc.setDh, selectCode]
  | _ => simp [Rtc.set, selectCode]

/-- A write of a clock register: the clock brought up to the time, the register, and a fresh anchor when it un-halts. -/
theorem State.rtcWrite_eq (s : State) (f : RtcField) (v : Byte) :
    s.rtcWrite f v
      = if selectCode f = 12 ∧ s.rtcAdvance.cart.rtc.halt = true ∧ v.getLsbD 6 = false then
          { s.rtcAdvance with
            cart := { s.rtcAdvance.cart with
              rtc := s.rtcAdvance.cart.rtc.set f v, rtcAnchor := s.rtcAdvance.nextNow }
            host := { s.rtcAdvance.host with
              now := s.rtcAdvance.nextNow, nowReads := s.rtcAdvance.host.nowReads + 1 } }
        else { s.rtcAdvance with cart := { s.rtcAdvance.cart with rtc := s.rtcAdvance.cart.rtc.set f v } } :=
  if_congr (Rtc.unhalts_iff _ f v) rfl rfl

/-- Settles O49: the bank by the mask of its count, the ROM windows by their offset, the RAM window by what it reaches. -/
theorem cartridgeRomBanking : Obligations.CartridgeRomBanking := by
  refine ⟨fun s k a hbanks => ?_, fun s a v hlo hhi => ?_⟩
  · intro b bank byte
    have hbank : s.cart.effRomBank = bank := Cart.effRomBank_eq hbanks
    obtain ⟨hpos, hlt⟩ := Cart.effRomBank_bounds hbanks
    rw [hbank] at hpos hlt
    refine ⟨hbank, hpos, hlt, fun ha hoverlay => ?_, fun hlo hhi => ?_⟩
    · rw [State.read8_rom hoverlay (by omega), s.cart.romOffset_of_low ha]
      rfl
    · rw [State.read8_rom (fun _ => by omega) hhi]
      cases hkind : s.cart.kind with
      | romOnly =>
        rw [Cart.romOffset_of_romOnly hkind]
        rfl
      | mbc3Rtc =>
        rw [Cart.romOffset_of_mbc3Rtc hkind hlo, hbank]
        rfl
  · intro c sel
    refine ⟨fun h => ?_, fun hkind henable => ⟨fun k hsel hbanks => ?_, fun h8 h12 => ?_⟩⟩
    · exact State.cartRam_of_nothing hlo hhi v (Cart.ramTarget_eq_nothing a h)
    · exact State.cartRam_of_ram hlo hhi v (Cart.ramTarget_eq_ram hkind henable hsel hbanks hlo)
    · obtain ⟨f, htarget, hsel⟩ := Cart.ramTarget_eq_clock a hkind henable h8 h12
      obtain ⟨hread, htouch, hwrite⟩ := State.cartRam_of_clock hlo hhi v htarget
      rw [show sel = selectCode f from hsel]
      refine ⟨hread.trans (c.lat.get_eq_ite f), htouch, ?_⟩
      rw [hwrite, State.rtcWrite_eq, Rtc.set_eq_ite]

/-! ### The latches -/

theorem lowNibble_eq_iff (v w : Byte) : v &&& 0x0F = w ↔ v.toNat % 16 = w.toNat := by
  rw [← BitVec.toNat_inj, BitVec.toNat_and]
  exact Eq.congr_left (Nat.and_two_pow_sub_one_eq_mod v.toNat 4)

/-- Settles O50: a store below 0x8000 goes to the controller, which decides by the window. -/
theorem cartridgeLatches : Obligations.CartridgeLatches := by
  intro s a v ha
  rw [s.write8_rom v ha]
  unfold State.cartWrite
  refine ⟨fun hkind => by rw [hkind], fun hkind => ?_⟩
  rw [hkind]
  dsimp only
  refine ⟨fun h => ?_, fun hlo hhi => ?_, fun hlo hhi => ?_, fun hlo => ?_⟩
  · rw [if_pos h, decide_eq_decide.2 (lowNibble_eq_iff v 0x0A)]
    rfl
  · rw [if_neg (by omega), if_pos hhi, BitVec.setWidth_eq_extractLsb' (by decide)]
  · rw [if_neg (by omega), if_neg (by omega), if_pos hhi, BitVec.setWidth_eq_extractLsb' (by decide)]
  · rw [if_neg (by omega), if_neg (by omega), if_neg (by omega), if_pos ha]
    unfold State.latchWrite
    dsimp only
    split <;> rfl

end Sys2Proof.Machine

/-!
SUPPORT. What the parts of a step apart from the pixel and the audio processor's own advance do to these two: only a write of a
port changes them.
-/
namespace Sys2Proof.Machine

/-- `t` has the pixel processor and the audio processor of `s`. -/
structure SamePpuApu (s t : State) : Prop where
  ppu : t.ppu = s.ppu
  apu : t.apu = s.apu

theorem SamePpuApu.trans {s t u : State} (h : SamePpuApu s t) (h' : SamePpuApu t u) : SamePpuApu s u :=
  ⟨h'.ppu.trans h.ppu, h'.apu.trans h.apu⟩

theorem State.cartWrite_samePpuApu (s : State) (a : Word) (v : Byte) : SamePpuApu s (s.cartWrite a v) := by
  have hclock : ∀ f, SamePpuApu s (s.rtcWrite f v) := fun f => by
    unfold State.rtcWrite
    dsimp only
    split <;> exact ⟨rfl, rfl⟩
  have hlatch : SamePpuApu s (s.latchWrite v) := by
    unfold State.latchWrite
    dsimp only
    split <;> exact ⟨rfl, rfl⟩
  unfold State.cartWrite
  split
  · exact ⟨rfl, rfl⟩
  split
  · exact ⟨rfl, rfl⟩
  split
  · exact ⟨rfl, rfl⟩
  split
  · exact ⟨rfl, rfl⟩
  split
  · exact hlatch
  unfold State.ramWindowWrite
  split
  · exact ⟨rfl, rfl⟩
  · exact hclock _
  · exact ⟨rfl, rfl⟩

/-- A store leaves the pixel and the audio processor, or is the write of a port. -/
theorem State.write8_cases (s : State) (a : Word) (v : Byte) :
    SamePpuApu s (s.write8 a v) ∨ ∃ r, s.write8 a v = s.ioWrite r v := by
  unfold State.write8
  cases s.window a with
  | boot | cartRom | cartRam => exact .inl (s.cartWrite_samePpuApu a v)
  | oam =>
    dsimp only
    split <;> exact .inl ⟨rfl, rfl⟩
  | io =>
    dsimp only
    split
    · exact .inr ⟨_, rfl⟩
    · exact .inl ⟨rfl, rfl⟩
  | _ => exact .inl ⟨rfl, rfl⟩

/-- The DMA copy stores to object memory past the ports (R120). -/
theorem State.dmaWrite_samePpuApu (s : State) (v : Byte) : SamePpuApu s (s.dmaWrite v) := by
  obtain ⟨now, reads, anchor, r, hcopy⟩ := State.dmaCopy_eq_withClock v dmaLen 0 s
  rw [State.dmaWrite_eq]
  generalize s.dmaCopy v 0 dmaLen = t at hcopy ⊢
  rw [hcopy]
  exact ⟨rfl, rfl⟩

theorem State.hostCall_samePpuApu (s : State) (c : HostCall) : SamePpuApu s (s.hostCall c) := by
  cases c with
  | press b =>
    show SamePpuApu s (s.buttonPress b)
    unfold State.buttonPress
    split <;> exact ⟨rfl, rfl⟩
  | release b => exact ⟨rfl, rfl⟩
  | saveRequest =>
    show SamePpuApu s s.saveRequest
    unfold State.saveRequest
    split <;> exact ⟨rfl, rfl⟩

theorem State.applyCalls_samePpuApu : ∀ (cs : List (Nat × HostCall)) (s : State), SamePpuApu s (State.applyCalls cs s)
  | [], _ => ⟨rfl, rfl⟩
  | (_, c) :: rest, s => by
    unfold State.applyCalls
    split
    · exact (s.hostCall_samePpuApu c).trans (State.applyCalls_samePpuApu rest _)
    · exact ⟨rfl, rfl⟩

theorem State.hostPhase_samePpuApu (s : State) : SamePpuApu s s.hostPhase := by
  obtain ⟨hppu, hapu⟩ := State.applyCalls_samePpuApu s.host.calls s
  exact ⟨hppu, hapu⟩

theorem State.timerAdvance_samePpuApu (s : State) (n : Nat) : SamePpuApu s (s.timerAdvance n) := by
  rw [timerBatch s n]
  exact ⟨rfl, rfl⟩

end Sys2Proof.Machine

/-!
SUPPORT. The scan of the display: the level of the STAT line, the legal positions of the scan and the sizes of the buffers, kept
by the ports and by every boundary the clock crosses.
-/
namespace Sys2Proof.Machine

/-! ### The STAT line -/

/-- The evaluation remembers the level of the line, low with the display off (R572), and changes nothing else of the pixel
processor. -/
theorem State.evalStat_ppu (s : State) : s.evalStat.ppu = { s.ppu with statLevel := s.ppu.on && s.ppu.statLine } := by
  unfold State.evalStat
  cases hon : s.ppu.on
  · rfl
  · dsimp only
    rw [if_pos rfl, Bool.true_and]
    split <;> rfl

/-! ### Legal positions of the scan -/

/-- The scan stands in a legal mode of a legal line (R552, R563, R570), whatever its clock and the remembered STAT level. -/
structure Ppu.Placed (p : Ppu) : Prop where
  off : p.on = false → p.mode = .hBlank ∧ p.modeClock = 0 ∧ p.ly = 0 ∧ p.winLine = 0
  line : p.ly.toNat < 154
  blank : p.on = true → (p.mode = .vBlank ↔ 144 ≤ p.ly.toNat)

/-- A display that is on, at a legal position, with the level its STAT line has (R572). -/
structure Ppu.Running (p : Ppu) : Prop where
  on : p.on = true
  placed : p.Placed
  level : p.statLevel = p.statLine

theorem Ppu.Placed.line_lt {p : Ppu} (h : p.Placed) (hon : p.on = true) (hm : p.mode ≠ .vBlank) : p.ly.toNat < 144 :=
  Nat.lt_of_not_le fun hle => hm ((h.blank hon).2 hle)

theorem Ppu.Placed.le_line {p : Ppu} (h : p.Placed) (hon : p.on = true) (hm : p.mode = .vBlank) : 144 ≤ p.ly.toNat :=
  (h.blank hon).1 hm

theorem Ppu.placed_of_visible {p : Ppu} (hon : p.on = true) (hm : p.mode ≠ .vBlank) (hl : p.ly.toNat < 144) : p.Placed where
  off hoff := nomatch hon.symm.trans hoff
  line := Nat.lt_trans hl (by decide)
  blank _ := iff_of_false hm (Nat.not_le_of_lt hl)

theorem Ppu.placed_of_blank {p : Ppu} (hon : p.on = true) (hm : p.mode = .vBlank) (hlo : 144 ≤ p.ly.toNat)
    (hhi : p.ly.toNat < 154) : p.Placed where
  off hoff := nomatch hon.symm.trans hoff
  line := hhi
  blank _ := iff_of_true hm hlo

theorem ScanInv.placed {s : State} (h : ScanInv s) : s.ppu.Placed where
  off hoff := by
    obtain ⟨hm, hc, hl, hw, -⟩ := h.off hoff
    exact ⟨hm, hc, hl, hw⟩
  line := h.line
  blank := h.blank

theorem ScanInv.of_ppu_eq {s t : State} (h : ScanInv s) (he : t.ppu = s.ppu) : ScanInv t := by
  obtain ⟨hoff, hclock, hline, hblank, hlevel⟩ := h
  rw [← he] at hoff hclock hline hblank hlevel
  exact ⟨hoff, hclock, hline, hblank, hlevel⟩

theorem Ppu.Running.scanInv {s : State} (h : s.ppu.Running) (hc : s.ppu.modeClock < s.ppu.mode.budget) : ScanInv s where
  off hoff := absurd (h.on.symm.trans hoff) (by decide)
  clock := hc
  line := h.placed.line
  blank := h.placed.blank
  level _ := h.level

theorem State.evalStat_running {s : State} (hon : s.ppu.on = true) (h : s.ppu.Placed) : s.evalStat.ppu.Running := by
  rw [s.evalStat_ppu, hon]
  exact ⟨hon, ⟨h.off, h.line, h.blank⟩, rfl⟩

/-- At a legal position the evaluated line makes the whole invariant. -/
theorem scanInv_evalStat {s : State} (h : s.ppu.Placed) (hc : s.ppu.modeClock < s.ppu.mode.budget) : ScanInv s.evalStat := by
  cases hon : s.ppu.on with
  | true =>
    refine (State.evalStat_running hon h).scanInv ?_
    rw [s.evalStat_ppu]
    exact hc
  | false =>
    refine ScanInv.of_ppu_eq (s := { s with ppu := { s.ppu with statLevel := false } }) ?_ ?_
    · obtain ⟨hm, hk, hl, hw⟩ := h.off hon
      exact ⟨fun _ => ⟨hm, hk, hl, hw, rfl⟩, hc, h.line, h.blank, fun hon' => (nomatch hon.symm.trans hon')⟩
    · rw [s.evalStat_ppu, hon, Bool.false_and]

/-! ### The ports -/

theorem State.writeLcdc_keep {s : State} {v : Byte} (h : s.ppu.on = v.getLsbD 7) :
    s.writeLcdc v = { s with ppu := { s.ppu with lcdc := v } } := by
  unfold State.writeLcdc
  dsimp only
  rw [h]
  show (if (v.getLsbD 7 && !v.getLsbD 7) = true then _ else if (!v.getLsbD 7 && v.getLsbD 7) = true then _ else _) = _
  rw [Bool.and_not_self, Bool.not_and_self]
  rfl

theorem State.writeLcdc_off {s : State} {v : Byte} (hon : s.ppu.on = true) (hv : v.getLsbD 7 = false) :
    s.writeLcdc v = { s with ppu := Ppu.switchOff { s.ppu with lcdc := v } } :=
  if_pos (show (s.ppu.on && !v.getLsbD 7) = true by rw [hon, hv]; rfl)

theorem State.writeLcdc_on {s : State} {v : Byte} (hoff : s.ppu.on = false) (hv : v.getLsbD 7 = true) :
    s.writeLcdc v = { s with ppu := Ppu.switchOn { s.ppu with lcdc := v } }.evalStat :=
  (if_neg (show ¬ (s.ppu.on && !v.getLsbD 7) = true by rw [hoff, hv]; decide)).trans
    (if_pos (show (!s.ppu.on && v.getLsbD 7) = true by rw [hoff, hv]; rfl))

/-- Switching the display resets the scan, and a write that keeps bit 7 leaves it (R570). -/
theorem ScanInv.writeLcdc {s : State} (v : Byte) (h : ScanInv s) : ScanInv (s.writeLcdc v) := by
  by_cases hkeep : s.ppu.on = v.getLsbD 7
  · rw [State.writeLcdc_keep hkeep]
    exact ⟨fun hoff => h.off (hkeep.trans hoff), h.clock, h.line, fun hon => h.blank (hkeep.trans hon),
      fun hon => h.level (hkeep.trans hon)⟩
  · cases hv : v.getLsbD 7 with
    | true =>
      rw [hv, Bool.not_eq_true] at hkeep
      rw [State.writeLcdc_on hkeep hv]
      exact scanInv_evalStat (s := { s with ppu := Ppu.switchOn { s.ppu with lcdc := v } })
        (Ppu.placed_of_visible hv (show PpuMode.oamScan ≠ .vBlank by decide) (show (0 : Nat) < 144 by decide))
        (show 0 < PpuMode.oamScan.budget by decide)
    | false =>
      rw [hv, Bool.not_eq_false] at hkeep
      rw [State.writeLcdc_off hkeep hv]
      exact ⟨fun _ => ⟨rfl, rfl, rfl, rfl, rfl⟩, show 0 < PpuMode.hBlank.budget by decide, show (0 : Nat) < 154 by decide,
        fun hon => (nomatch hv.symm.trans hon), fun hon => (nomatch hv.symm.trans hon)⟩

theorem ScanInv.ioWrite {s : State} (r : IoReg) (v : Byte) (h : ScanInv s) : ScanInv (s.ioWrite r v) := by
  have hp := h.placed
  cases r with
  | lcdc => exact h.writeLcdc v
  | stat =>
    exact scanInv_evalStat (s := { s with ppu := { s.ppu with statEn := v.extractLsb' 3 4 } })
      ⟨hp.off, hp.line, hp.blank⟩ h.clock
  | lyc => exact scanInv_evalStat (s := { s with ppu := { s.ppu with lyc := v } }) ⟨hp.off, hp.line, hp.blank⟩ h.clock
  | dma => exact h.of_ppu_eq (s.dmaWrite_samePpuApu v).ppu
  | boot => exact h.of_ppu_eq (by unfold State.ioWrite; dsimp only; split <;> rfl)
  | _ => exact ⟨h.off, h.clock, h.line, h.blank, h.level⟩

/-! ### The boundaries -/

/-- The state with another mode clock. -/
def State.withModeClock (s : State) (n : Nat) : State := { s with ppu := { s.ppu with modeClock := n } }

/-- One boundary of the loop of `PpuAdvance`: the budget taken off, then the exit action (R562). -/
def State.cross (s : State) : State := (s.withModeClock (s.ppu.modeClock - s.ppu.mode.budget)).exitMode

theorem State.ppuLoop_cross {s : State} (fuel : Nat) (h : s.ppu.mode.budget ≤ s.ppu.modeClock) :
    State.ppuLoop (fuel + 1) s = State.ppuLoop fuel s.cross := if_pos h

theorem State.ppuLoop_rest {s : State} (fuel : Nat) (h : s.ppu.modeClock < s.ppu.mode.budget) :
    State.ppuLoop fuel s = s := by
  cases fuel with
  | zero => rfl
  | succ fuel => exact if_neg (Nat.not_le_of_lt h)

theorem State.ppuAdvance_on {s : State} (n : Nat) (h : s.ppu.on = true) :
    s.ppuAdvance n = State.ppuLoop ((s.ppu.modeClock + n) / 80 + 1) (s.withModeClock (s.ppu.modeClock + n)) := if_pos h

theorem State.ppuAdvance_off {s : State} (n : Nat) (h : s.ppu.on = false) : s.ppuAdvance n = s :=
  if_neg (by rw [h]; decide)

theorem PpuMode.le_budget (m : PpuMode) : 80 ≤ m.budget := by cases m <;> decide

theorem State.exitMode_oamScan {s : State} (h : s.ppu.mode = .oamScan) : s.exitMode = s.exitScan := by
  unfold State.exitMode
  rw [h]

theorem State.exitMode_transfer {s : State} (h : s.ppu.mode = .transfer) : s.exitMode = s.exitTransfer := by
  unfold State.exitMode
  rw [h]

theorem State.exitMode_hBlank {s : State} (h : s.ppu.mode = .hBlank) : s.exitMode = s.exitHBlank := by
  unfold State.exitMode
  rw [h]

theorem State.exitMode_vBlank {s : State} (h : s.ppu.mode = .vBlank) : s.exitMode = s.exitVBlankLine := by
  unfold State.exitMode
  rw [h]

/-- What the exit actions leave of the pixel processor: the clock, which the loop has set, and `LCDC`. -/
def Ppu.clockAndLcdc (p : Ppu) : Nat × Byte := (p.modeClock, p.lcdc)

theorem State.evalStat_clockAndLcdc (s : State) : s.evalStat.ppu.clockAndLcdc = s.ppu.clockAndLcdc := by
  rw [s.evalStat_ppu]
  rfl

theorem State.exitMode_clockAndLcdc (s : State) : s.exitMode.ppu.clockAndLcdc = s.ppu.clockAndLcdc := by
  cases hm : s.ppu.mode with
  | oamScan =>
    rw [State.exitMode_oamScan hm]
    exact State.evalStat_clockAndLcdc _
  | transfer =>
    rw [State.exitMode_transfer hm]
    exact State.evalStat_clockAndLcdc _
  | hBlank =>
    rw [State.exitMode_hBlank hm]
    unfold State.exitHBlank
    dsimp only
    split <;> exact State.evalStat_clockAndLcdc _
  | vBlank =>
    rw [State.exitMode_vBlank hm]
    unfold State.exitVBlankLine
    split <;> exact State.evalStat_clockAndLcdc _

theorem State.exitMode_modeClock (s : State) : s.exitMode.ppu.modeClock = s.ppu.modeClock :=
  congrArg Prod.fst s.exitMode_clockAndLcdc

theorem State.exitMode_lcdc (s : State) : s.exitMode.ppu.lcdc = s.ppu.lcdc := congrArg Prod.snd s.exitMode_clockAndLcdc

theorem State.cross_modeClock (s : State) : s.cross.ppu.modeClock = s.ppu.modeClock - s.ppu.mode.budget :=
  State.exitMode_modeClock _

/-- With fuel for every boundary of the smallest budget, the loop stops only below the budget (R562). -/
theorem State.ppuLoop_modeClock_lt : ∀ (fuel : Nat) (s : State), s.ppu.modeClock < 80 * fuel →
    (State.ppuLoop fuel s).ppu.modeClock < (State.ppuLoop fuel s).ppu.mode.budget
  | 0, _, h => absurd h (Nat.not_lt_zero _)
  | fuel + 1, s, h => by
    rcases Nat.lt_or_ge s.ppu.modeClock s.ppu.mode.budget with hlt | hge
    · rw [State.ppuLoop_rest _ hlt]
      exact hlt
    · rw [State.ppuLoop_cross fuel hge]
      refine State.ppuLoop_modeClock_lt fuel s.cross ?_
      have hbudget := s.ppu.mode.le_budget
      rw [s.cross_modeClock]
      omega

/-- What every boundary keeps, the loop keeps. -/
theorem State.ppuLoop_keeps {P : State → Prop} (hP : ∀ s : State, P s → P s.cross) :
    ∀ (fuel : Nat) (s : State), P s → P (State.ppuLoop fuel s)
  | 0, _, h => h
  | fuel + 1, s, h => by
    rcases Nat.lt_or_ge s.ppu.modeClock s.ppu.mode.budget with hlt | hge
    · rw [State.ppuLoop_rest _ hlt]
      exact h
    · rw [State.ppuLoop_cross fuel hge]
      exact State.ppuLoop_keeps hP fuel s.cross (hP s h)

/-- The exit action of a running display leads to a legal position again (R564 to R567). -/
theorem Ppu.Running.exitMode {s : State} (h : s.ppu.Running) : s.exitMode.ppu.Running := by
  obtain ⟨hon, hp, -⟩ := h
  cases hm : s.ppu.mode with
  | oamScan =>
    have hl := hp.line_lt hon (by rw [hm]; decide)
    rw [State.exitMode_oamScan hm]
    exact State.evalStat_running (s := { s with ppu := _ }) hon
      (Ppu.placed_of_visible hon (show PpuMode.transfer ≠ .vBlank by decide) hl)
  | transfer =>
    have hl := hp.line_lt hon (by rw [hm]; decide)
    rw [State.exitMode_transfer hm]
    exact State.evalStat_running (s := { s with ppu := _ }) hon
      (Ppu.placed_of_visible hon (show PpuMode.hBlank ≠ .vBlank by decide) hl)
  | hBlank =>
    have hl := hp.line_lt hon (by rw [hm]; decide)
    have hnext : (s.ppu.ly + 1).toNat = s.ppu.ly.toNat + 1 := by bv_omega
    rw [State.exitMode_hBlank hm]
    unfold State.exitHBlank
    dsimp only
    split
    next h144 =>
      have h144' : (s.ppu.ly + 1).toNat = 144 := congrArg BitVec.toNat h144
      refine State.evalStat_running (s := { s.requestInterrupt .vBlank with ppu := _, host := _ }) hon
        (Ppu.placed_of_blank hon rfl ?_ ?_)
      · exact h144'.ge
      · exact h144'.trans_lt (by decide)
    next h144 =>
      have h144' : (s.ppu.ly + 1).toNat ≠ 144 := fun hc => h144 (BitVec.eq_of_toNat_eq hc)
      refine State.evalStat_running (s := { s with ppu := _ }) hon
        (Ppu.placed_of_visible hon (show PpuMode.oamScan ≠ .vBlank by decide) ?_)
      show (s.ppu.ly + 1).toNat < 144
      omega
  | vBlank =>
    have hlo := hp.le_line hon hm
    have hhi := hp.line
    have hnext : (s.ppu.ly + 1).toNat = s.ppu.ly.toNat + 1 := by bv_omega
    rw [State.exitMode_vBlank hm]
    unfold State.exitVBlankLine
    split
    next =>
      exact State.evalStat_running (s := { s with ppu := _ }) hon
        (Ppu.placed_of_visible hon (show PpuMode.oamScan ≠ .vBlank by decide) (show (0 : Nat) < 144 by decide))
    next h154 =>
      have h154' : (s.ppu.ly + 1).toNat ≠ 154 := fun hc => h154 (BitVec.eq_of_toNat_eq hc)
      refine State.evalStat_running (s := { s with ppu := _ }) hon (Ppu.placed_of_blank hon hm ?_ ?_)
      · show 144 ≤ (s.ppu.ly + 1).toNat
        omega
      · show (s.ppu.ly + 1).toNat < 154
        omega

theorem Ppu.Running.withModeClock {s : State} (n : Nat) (h : s.ppu.Running) : (s.withModeClock n).ppu.Running := by
  obtain ⟨hon, ⟨-, hline, hblank⟩, hlevel⟩ := h
  exact ⟨hon, ⟨fun hoff => (nomatch hon.symm.trans hoff), hline, hblank⟩, hlevel⟩

theorem Ppu.Running.cross {s : State} (h : s.ppu.Running) : s.cross.ppu.Running := (h.withModeClock _).exitMode

theorem ScanInv.ppuAdvance {s : State} (n : Nat) (h : ScanInv s) : ScanInv (s.ppuAdvance n) := by
  cases hon : s.ppu.on with
  | false =>
    rw [State.ppuAdvance_off n hon]
    exact h
  | true =>
    have hrun : s.ppu.Running := ⟨hon, h.placed, h.level hon⟩
    rw [State.ppuAdvance_on n hon]
    refine Ppu.Running.scanInv ?_ ?_
    · exact State.ppuLoop_keeps (P := fun t => t.ppu.Running) (fun _ => Ppu.Running.cross) _ _ (hrun.withModeClock _)
    · refine State.ppuLoop_modeClock_lt _ _ ?_
      show s.ppu.modeClock + n < 80 * ((s.ppu.modeClock + n) / 80 + 1)
      omega

/-! ### The buffers -/

/-- The two rows of the line being drawn have the width of the screen. -/
abbrev LineBuf.Wide (lb : LineBuf) : Prop := lb.row.length = 160 ∧ lb.drawn.length = 160

theorem Ppu.drawPixel_wide (p : Ppu) (vram : Memory) (y : Nat) (bg : List (BitVec 2)) (sp : Sprite) (lb : LineBuf) (c : Nat)
    (h : lb.Wide) : (p.drawPixel vram y bg sp lb c).Wide := by
  unfold Ppu.drawPixel
  dsimp only
  split
  · exact h
  split
  · exact h
  split
  · exact h
  split
  · exact h
  · exact ⟨List.length_set.trans h.1, List.length_set.trans h.2⟩

theorem Ppu.drawSprite_wide (p : Ppu) (vram : Memory) (y : Nat) (bg : List (BitVec 2)) (lb : LineBuf) (sp : Sprite)
    (h : lb.Wide) : (p.drawSprite vram y bg lb sp).Wide :=
  List.foldlRecOn _ _ h fun lb' h' c _ => p.drawPixel_wide vram y bg sp lb' c h'

theorem Ppu.drawSprites_wide (p : Ppu) (vram : Memory) (y : Nat) (bg : List (BitVec 2)) (lb : LineBuf)
    (h : lb.Wide) : (p.drawSprites vram y bg lb).Wide := by
  unfold Ppu.drawSprites
  split
  · exact List.foldlRecOn _ _ h fun lb' h' sp _ => p.drawSprite_wide vram y bg lb' sp h'
  · exact h

theorem Ppu.length_bgRow (p : Ppu) (vram : Memory) (y : Nat) : (p.bgRow vram y).length = 160 := by
  simp [Ppu.bgRow]

/-- The buffers of a pixel processor have their sizes (R552, R553): `BufferInv` as a property of it. -/
structure Ppu.Sized (p : Ppu) : Prop where
  sprites : p.sprites.length = 40
  bgIdx : p.bgIdx.length = 160
  objDrawn : p.objDrawn.length = 160
  lines : p.fb.length = 144
  columns : ∀ row ∈ p.fb, row.length = 160

theorem bufferInv_iff_sized (s : State) : BufferInv s ↔ s.ppu.Sized :=
  ⟨fun h => { h with }, fun h => { h with }⟩

/-- A rendered line is a row of the framebuffer as wide as the others (R582, R590). -/
theorem Ppu.Sized.renderLine {p : Ppu} (vram : Memory) (y : Nat) (h : p.Sized) : (p.renderLine vram y).Sized := by
  have hlb := p.drawSprites_wide vram y (p.bgRow vram y) { row := (p.bgRow vram y).map p.bgShade, drawn := p.objDrawn }
    ⟨by rw [List.length_map, p.length_bgRow], h.objDrawn⟩
  exact
    { sprites := h.sprites
      bgIdx := p.length_bgRow vram y
      objDrawn := hlb.2
      lines := List.length_set.trans h.lines
      columns := fun row hrow => (List.mem_or_eq_of_mem_set hrow).elim (h.columns row) fun he => he ▸ hlb.1 }

theorem State.evalStat_sized {s : State} (h : s.ppu.Sized) : s.evalStat.ppu.Sized := by
  rw [s.evalStat_ppu]
  exact { h with }

theorem Ppu.Sized.nextLine {p : Ppu} (m : PpuMode) (h : p.Sized) : Ppu.Sized { p.nextLine with mode := m } :=
  { h with bgIdx := List.length_replicate, objDrawn := List.length_replicate }

theorem Ppu.Sized.exitMode {s : State} (h : s.ppu.Sized) : s.exitMode.ppu.Sized := by
  cases hm : s.ppu.mode with
  | oamScan =>
    rw [State.exitMode_oamScan hm]
    exact State.evalStat_sized (s := { s with ppu := _ })
      { h with sprites := List.length_map _ |>.trans List.length_range }
  | transfer =>
    rw [State.exitMode_transfer hm]
    exact State.evalStat_sized (s := { s with ppu := _ }) { h.renderLine s.vram s.ppu.ly.toNat with }
  | hBlank =>
    rw [State.exitMode_hBlank hm]
    unfold State.exitHBlank
    dsimp only
    split
    · exact State.evalStat_sized (s := { s.requestInterrupt .vBlank with ppu := _, host := _ }) (h.nextLine _)
    · exact State.evalStat_sized (s := { s with ppu := _ }) (h.nextLine _)
  | vBlank =>
    rw [State.exitMode_vBlank hm]
    unfold State.exitVBlankLine
    split <;>
    exact State.evalStat_sized (s := { s with ppu := _ }) { h with }

theorem Ppu.Sized.withModeClock {s : State} (n : Nat) (h : s.ppu.Sized) : (s.withModeClock n).ppu.Sized :=
  { h with }

theorem Ppu.Sized.ppuAdvance {s : State} (n : Nat) (h : s.ppu.Sized) : (s.ppuAdvance n).ppu.Sized := by
  cases hon : s.ppu.on with
  | false =>
    rw [State.ppuAdvance_off n hon]
    exact h
  | true =>
    rw [State.ppuAdvance_on n hon]
    exact State.ppuLoop_keeps (P := fun t => t.ppu.Sized) (fun _ ht => (ht.withModeClock _).exitMode) _ _ (h.withModeClock _)

/-- No port reaches a buffer. -/
theorem Ppu.Sized.ioWrite {s : State} (r : IoReg) (v : Byte) (h : s.ppu.Sized) : (s.ioWrite r v).ppu.Sized := by
  cases r with
  | lcdc =>
    show (s.writeLcdc v).ppu.Sized
    unfold State.writeLcdc
    dsimp only
    split
    · exact { h with }
    split
    · exact State.evalStat_sized (s := { s with ppu := _ }) { h with }
    · exact { h with }
  | stat | lyc =>
    exact State.evalStat_sized (s := { s with ppu := _ }) { h with }
  | dma =>
    rw [State.ioWrite_dma, (s.dmaWrite_samePpuApu v).ppu]
    exact h
  | boot =>
    unfold State.ioWrite
    dsimp only
    split <;> exact h
  | _ => exact { h with }

/-! ### A step -/

/-- The display part of the invariant: a legal scan position and buffers of their sizes. -/
def DisplayInv (s : State) : Prop := ScanInv s ∧ s.ppu.Sized

namespace DisplayInv

variable {s t : State}

theorem of_ppu_eq (h : DisplayInv s) (he : t.ppu = s.ppu) : DisplayInv t := ⟨h.1.of_ppu_eq he, he ▸ h.2⟩

theorem write8 (a : Word) (v : Byte) (h : DisplayInv s) : DisplayInv (s.write8 a v) := by
  rcases s.write8_cases a v with he | ⟨r, he⟩
  · exact h.of_ppu_eq he.ppu
  · rw [he]
    exact ⟨h.1.ioWrite r v, h.2.ioWrite r v⟩

theorem stepClosed : StepClosed DisplayInv where
  exec :=
    { regs := fun _ h => h.of_ppu_eq rfl
      cost := fun _ h => h.of_ppu_eq rfl
      touch := fun a h => h.of_ppu_eq (State.touch8_ppu _ a)
      write := fun a v h => h.write8 a v
      ime := fun _ h => h.of_ppu_eq rfl
      ei := fun _ h => h.of_ppu_eq rfl
      bug := fun h => h.of_ppu_eq rfl
      fault := fun _ h => h.of_ppu_eq rfl }
  wait _ h := h.of_ppu_eq rfl
  noBug h := h.of_ppu_eq rfl
  iflag _ h := h.of_ppu_eq rfl
  unstall h := h.of_ppu_eq rfl
  host h := h.of_ppu_eq (State.hostPhase_samePpuApu _).ppu
  timer n h := h.of_ppu_eq (State.timerAdvance_samePpuApu _ n).ppu
  ppu n h := ⟨h.1.ppuAdvance n, h.2.ppuAdvance n⟩
  apu n h := by
    obtain ⟨a, r, he⟩ := State.apuAdvance_eq n _
    exact h.of_ppu_eq (by rw [he])

end DisplayInv

/-- Settles O43: the ports and the boundaries of the scan are the only parts of a step that reach the pixel processor, and each
keeps the legal position and the sizes. -/
theorem stepKeepsDisplay : Obligations.StepKeepsDisplay := by
  intro s t hscan hbuffers ht
  obtain ⟨hscan', hsized'⟩ := step_closed DisplayInv.stepClosed ⟨hscan, (bufferInv_iff_sized s).1 hbuffers⟩ ht
  exact ⟨hscan', (bufferInv_iff_sized t).2 hsized'⟩

end Sys2Proof.Machine

/-!
SUPPORT. The clock of the display: every boundary alone, batches that add up, and the boundaries of one frame.
-/
namespace Sys2Proof.Machine

/-! ### The evaluation of the STAT line -/

theorem State.evalStat_of_off {s : State} (h : s.ppu.on = false) :
    s.evalStat = { s with ppu := { s.ppu with statLevel := false } } := if_neg (by rw [h]; decide)

theorem State.evalStat_of_on {s : State} (h : s.ppu.on = true) :
    s.evalStat
      = { s with
          iflag := if s.ppu.statLine && !s.ppu.statLevel then s.iflag ||| IntSource.stat.bit else s.iflag
          ppu := { s.ppu with statLevel := s.ppu.statLine } } := by
  unfold State.evalStat
  rw [if_pos h]
  dsimp only
  split <;> rfl

/-! ### The exit actions do not look at the clock -/

theorem State.evalStat_withModeClock (s : State) (n : Nat) : (s.withModeClock n).evalStat = s.evalStat.withModeClock n := by
  cases hon : s.ppu.on with
  | false => rw [State.evalStat_of_off hon, State.evalStat_of_off (s := s.withModeClock n) hon]; rfl
  | true => rw [State.evalStat_of_on hon, State.evalStat_of_on (s := s.withModeClock n) hon]; rfl

theorem Ppu.renderLine_modeClock (p : Ppu) (n : Nat) (vram : Memory) (y : Nat) :
    Ppu.renderLine { p with modeClock := n } vram y = { p.renderLine vram y with modeClock := n } := by
  have hindex : Ppu.bgIndexAt { p with modeClock := n } vram y = p.bgIndexAt vram y := rfl
  have hwindow : Ppu.windowAt { p with modeClock := n } y = p.windowAt y := rfl
  have hpixel : Ppu.drawPixel { p with modeClock := n } vram y = p.drawPixel vram y := rfl
  have hselect : Ppu.selectSprites { p with modeClock := n } y = p.selectSprites y := rfl
  have hshade : Ppu.bgShade { p with modeClock := n } = p.bgShade := rfl
  unfold Ppu.renderLine Ppu.drawSprites Ppu.drawSprite Ppu.bgRow Ppu.windowUsed
  rw [hindex, hwindow, hpixel, hselect, hshade]
  rfl

theorem State.exitScan_withModeClock (s : State) (n : Nat) : (s.withModeClock n).exitScan = s.exitScan.withModeClock n := by
  unfold State.exitScan
  rw [← State.evalStat_withModeClock]
  rfl

theorem State.exitTransfer_withModeClock (s : State) (n : Nat) :
    (s.withModeClock n).exitTransfer = s.exitTransfer.withModeClock n := by
  have hline : (s.withModeClock n).ppu.renderLine s.vram s.ppu.ly.toNat
      = { s.ppu.renderLine s.vram s.ppu.ly.toNat with modeClock := n } := s.ppu.renderLine_modeClock n _ _
  unfold State.exitTransfer
  rw [← State.evalStat_withModeClock]
  exact congrArg (fun p : Ppu => State.evalStat { s with ppu := { p with mode := .hBlank } }) hline

theorem State.exitHBlank_withModeClock (s : State) (n : Nat) :
    (s.withModeClock n).exitHBlank = s.exitHBlank.withModeClock n := by
  have hly : (s.withModeClock n).ppu.nextLine.ly = s.ppu.nextLine.ly := rfl
  unfold State.exitHBlank
  dsimp only
  rw [hly]
  split <;>
  · rw [← State.evalStat_withModeClock]
    rfl

theorem State.exitVBlankLine_withModeClock (s : State) (n : Nat) :
    (s.withModeClock n).exitVBlankLine = s.exitVBlankLine.withModeClock n := by
  have hly : (s.withModeClock n).ppu.ly = s.ppu.ly := rfl
  unfold State.exitVBlankLine
  rw [hly]
  split <;>
  · rw [← State.evalStat_withModeClock]
    rfl

theorem State.exitMode_withModeClock (s : State) (n : Nat) : (s.withModeClock n).exitMode = s.exitMode.withModeClock n := by
  cases hm : s.ppu.mode with
  | oamScan =>
    rw [State.exitMode_oamScan hm, State.exitMode_oamScan (s := s.withModeClock n) hm]
    exact s.exitScan_withModeClock n
  | transfer =>
    rw [State.exitMode_transfer hm, State.exitMode_transfer (s := s.withModeClock n) hm]
    exact s.exitTransfer_withModeClock n
  | hBlank =>
    rw [State.exitMode_hBlank hm, State.exitMode_hBlank (s := s.withModeClock n) hm]
    exact s.exitHBlank_withModeClock n
  | vBlank =>
    rw [State.exitMode_vBlank hm, State.exitMode_vBlank (s := s.withModeClock n) hm]
    exact s.exitVBlankLine_withModeClock n

/-! ### One boundary -/

theorem State.ppuAdvance_of_lt {s : State} {n : Nat} (hon : s.ppu.on = true)
    (h : s.ppu.modeClock + n < s.ppu.mode.budget) : s.ppuAdvance n = s.withModeClock (s.ppu.modeClock + n) := by
  rw [State.ppuAdvance_on n hon]
  exact State.ppuLoop_rest _ h

/-- A batch that reaches the end of the mode and not that of the next is one exit action. -/
theorem State.ppuAdvance_of_exit {s : State} {n : Nat} (hon : s.ppu.on = true)
    (hge : s.ppu.mode.budget ≤ s.ppu.modeClock + n)
    (hlt : s.ppu.modeClock + n - s.ppu.mode.budget < s.exitMode.ppu.mode.budget) :
    s.ppuAdvance n = (s.withModeClock (s.ppu.modeClock + n - s.ppu.mode.budget)).exitMode := by
  have hcross : (s.withModeClock (s.ppu.modeClock + n)).cross
      = (s.withModeClock (s.ppu.modeClock + n - s.ppu.mode.budget)).exitMode := rfl
  rw [State.ppuAdvance_on n hon, State.ppuLoop_cross (s := s.withModeClock (s.ppu.modeClock + n)) _ hge, hcross]
  refine State.ppuLoop_rest _ ?_
  rw [State.exitMode_withModeClock]
  exact hlt

theorem State.exitScan_mode (s : State) : s.exitScan.ppu.mode = .transfer := congrArg Ppu.mode (State.evalStat_ppu _)

theorem State.exitTransfer_mode (s : State) : s.exitTransfer.ppu.mode = .hBlank := congrArg Ppu.mode (State.evalStat_ppu _)

/-! ### Batches add up -/

theorem State.cross_modeClock_lt {s : State} {fuel : Nat} (hge : s.ppu.mode.budget ≤ s.ppu.modeClock)
    (h : s.ppu.modeClock < 80 * (fuel + 1)) : s.cross.ppu.modeClock < 80 * fuel := by
  have hbudget := s.ppu.mode.le_budget
  rw [s.cross_modeClock]
  omega

/-- Fuel beyond the boundaries the clock can hold changes nothing. -/
theorem State.ppuLoop_fuel : ∀ (f g : Nat) (s : State), s.ppu.modeClock < 80 * f → s.ppu.modeClock < 80 * g →
    State.ppuLoop f s = State.ppuLoop g s
  | 0, _, _, hf, _ => absurd hf (Nat.not_lt_zero _)
  | _, 0, _, _, hg => absurd hg (Nat.not_lt_zero _)
  | f + 1, g + 1, s, hf, hg => by
    rcases Nat.lt_or_ge s.ppu.modeClock s.ppu.mode.budget with hlt | hge
    · rw [State.ppuLoop_rest _ hlt, State.ppuLoop_rest _ hlt]
    · rw [State.ppuLoop_cross f hge, State.ppuLoop_cross g hge]
      exact State.ppuLoop_fuel f g s.cross (State.cross_modeClock_lt hge hf) (State.cross_modeClock_lt hge hg)

/-- All the boundaries the clock holds. -/
def State.ppuRun (s : State) : State := State.ppuLoop (s.ppu.modeClock / 80 + 1) s

/-- The state with `n` cycles more on its mode clock. -/
def State.addClock (s : State) (n : Nat) : State := s.withModeClock (s.ppu.modeClock + n)

theorem State.ppuAdvance_eq_ppuRun {s : State} (n : Nat) (hon : s.ppu.on = true) : s.ppuAdvance n = (s.addClock n).ppuRun :=
  State.ppuAdvance_on n hon

theorem State.ppuRun_rest {s : State} (h : s.ppu.modeClock < s.ppu.mode.budget) : s.ppuRun = s := State.ppuLoop_rest _ h

theorem State.ppuRun_cross {s : State} (h : s.ppu.mode.budget ≤ s.ppu.modeClock) : s.ppuRun = s.cross.ppuRun := by
  unfold State.ppuRun
  rw [State.ppuLoop_cross _ h]
  exact State.ppuLoop_fuel _ _ _ (State.cross_modeClock_lt h (by omega)) (by omega)

/-- A boundary crossed with `n` cycles more leaves `n` cycles more. -/
theorem State.cross_addClock {s : State} (n : Nat) (h : s.ppu.mode.budget ≤ s.ppu.modeClock) :
    (s.addClock n).cross = s.cross.addClock n := by
  have hclock : s.ppu.modeClock + n - s.ppu.mode.budget = s.cross.ppu.modeClock + n := by
    rw [s.cross_modeClock]
    omega
  calc (s.addClock n).cross
    _ = (s.withModeClock (s.ppu.modeClock + n - s.ppu.mode.budget)).exitMode := rfl
    _ = s.exitMode.withModeClock (s.cross.ppu.modeClock + n) := by rw [State.exitMode_withModeClock, hclock]
    _ = s.cross.addClock n := by unfold State.addClock State.cross; rw [State.exitMode_withModeClock]; rfl

/-- Cycles that come after the boundaries count as if they had come before them. -/
theorem State.ppuRun_addClock (s : State) (n : Nat) : (s.ppuRun.addClock n).ppuRun = (s.addClock n).ppuRun := by
  induction hk : s.ppu.modeClock using Nat.strongRecOn generalizing s with
  | ind k ih =>
    rcases Nat.lt_or_ge s.ppu.modeClock s.ppu.mode.budget with hlt | hge
    · rw [State.ppuRun_rest hlt]
    · have hbudget := s.ppu.mode.le_budget
      have hcross := s.cross_modeClock
      have hge' : (s.addClock n).ppu.mode.budget ≤ (s.addClock n).ppu.modeClock := Nat.le_trans hge (Nat.le_add_right ..)
      rw [State.ppuRun_cross hge, State.ppuRun_cross hge', State.cross_addClock n hge]
      exact ih s.cross.ppu.modeClock (by omega) s.cross rfl

theorem State.ppuAdvance_lcdc (s : State) (n : Nat) : (s.ppuAdvance n).ppu.lcdc = s.ppu.lcdc := by
  cases hon : s.ppu.on with
  | false => rw [State.ppuAdvance_off n hon]
  | true =>
    rw [State.ppuAdvance_on n hon]
    exact State.ppuLoop_keeps (P := fun t => t.ppu.lcdc = s.ppu.lcdc)
      (fun t ht => (State.exitMode_lcdc (t.withModeClock _)).trans ht) _ _ rfl

theorem State.ppuAdvance_ppuOn (s : State) (n : Nat) : (s.ppuAdvance n).ppu.on = s.ppu.on :=
  congrArg (fun b : Byte => b.getLsbD 7) (s.ppuAdvance_lcdc n)

theorem State.ppuAdvance_add (s : State) (m n : Nat) : (s.ppuAdvance m).ppuAdvance n = s.ppuAdvance (m + n) := by
  cases hon : s.ppu.on with
  | false => rw [State.ppuAdvance_off m hon, State.ppuAdvance_off n hon, State.ppuAdvance_off _ hon]
  | true =>
    have hadd : (s.addClock m).addClock n = s.addClock (m + n) :=
      congrArg s.withModeClock (Nat.add_assoc s.ppu.modeClock m n)
    rw [State.ppuAdvance_eq_ppuRun n ((s.ppuAdvance_ppuOn m).trans hon), State.ppuAdvance_eq_ppuRun m hon,
      State.ppuRun_addClock, hadd, State.ppuAdvance_eq_ppuRun _ hon]

/-! ### One frame -/

/-- The display is on, at the very start of mode `m` of line `l`. -/
structure State.StartsMode (s : State) (m : PpuMode) (l : Nat) : Prop where
  on : s.ppu.on = true
  mode : s.ppu.mode = m
  clock : s.ppu.modeClock = 0
  line : s.ppu.ly.toNat = l

/-- The frame-ready signal and the request of vertical blank have been raised. -/
def State.Signalled (s : State) : Prop := s.host.frameReady = true ∧ s.iflag.getLsbD 0 = true

theorem State.Signalled.evalStat {s : State} (h : s.Signalled) : s.evalStat.Signalled := by
  cases hon : s.ppu.on with
  | false =>
    rw [State.evalStat_of_off hon]
    exact h
  | true =>
    rw [State.evalStat_of_on hon]
    refine ⟨h.1, ?_⟩
    show (if _ then s.iflag ||| _ else s.iflag).getLsbD 0 = true
    split
    · rw [BitVec.getLsbD_or, h.2, Bool.true_or]
    · exact h.2

theorem State.signalled_vBlank (s : State) (p : Ppu) :
    ({ s.requestInterrupt .vBlank with ppu := p, host := { s.host with frameReady := true } } : State).Signalled :=
  ⟨rfl, by rw [State.requestInterrupt_iflag, BitVec.getLsbD_or]; exact Bool.or_true _⟩

theorem State.Signalled.exitMode {s : State} (h : s.Signalled) : s.exitMode.Signalled := by
  cases hm : s.ppu.mode with
  | oamScan =>
    rw [State.exitMode_oamScan hm]
    exact State.Signalled.evalStat (s := { s with ppu := _ }) h
  | transfer =>
    rw [State.exitMode_transfer hm]
    exact State.Signalled.evalStat (s := { s with ppu := _ }) h
  | hBlank =>
    rw [State.exitMode_hBlank hm]
    unfold State.exitHBlank
    dsimp only
    split
    · exact (s.signalled_vBlank _).evalStat
    · exact State.Signalled.evalStat (s := { s with ppu := _ }) h
  | vBlank =>
    rw [State.exitMode_vBlank hm]
    unfold State.exitVBlankLine
    split <;> exact State.Signalled.evalStat (s := { s with ppu := _ }) h

theorem State.Signalled.ppuAdvance {s : State} (n : Nat) (h : s.Signalled) : (s.ppuAdvance n).Signalled := by
  cases hon : s.ppu.on with
  | false =>
    rw [State.ppuAdvance_off n hon]
    exact h
  | true =>
    rw [State.ppuAdvance_on n hon]
    exact State.ppuLoop_keeps (fun t ht => State.Signalled.exitMode (s := t.withModeClock _) ht) _ _ h

/-- A whole mode's worth of cycles from its start is its exit action. -/
theorem State.StartsMode.ppuAdvance_budget {s : State} {m : PpuMode} {l : Nat} (h : s.StartsMode m l) :
    s.ppuAdvance m.budget = s.exitMode := by
  obtain ⟨hon, rfl, hclock, -⟩ := h
  have hzero : s.ppu.modeClock + s.ppu.mode.budget - s.ppu.mode.budget = 0 := by omega
  have hself : s.withModeClock 0 = s := by rw [← hclock]; rfl
  have hnext := s.exitMode.ppu.mode.le_budget
  rw [State.ppuAdvance_of_exit hon (by omega) (by omega), hzero, hself]

theorem State.StartsMode.ppuAdvance_zero {s : State} {m : PpuMode} {l : Nat} (h : s.StartsMode m l) :
    (s.ppuAdvance 0).StartsMode m l := by
  have hbudget := s.ppu.mode.le_budget
  have hclock := h.clock
  rw [State.ppuAdvance_of_lt h.on (by omega)]
  exact ⟨h.on, h.mode, h.clock, h.line⟩

theorem State.startsMode_evalStat {s : State} {m : PpuMode} {l : Nat} (h : s.StartsMode m l) : s.evalStat.StartsMode m l := by
  obtain ⟨hon, hmode, hclock, hline⟩ := h
  constructor <;> rw [s.evalStat_ppu]
  · exact hon
  · exact hmode
  · exact hclock
  · exact hline

theorem State.StartsMode.afterScan {s : State} {l : Nat} (h : s.StartsMode .oamScan l) :
    (s.ppuAdvance 80).StartsMode .transfer l := by
  rw [show 80 = PpuMode.oamScan.budget from rfl, h.ppuAdvance_budget, State.exitMode_oamScan h.mode]
  exact State.startsMode_evalStat (s := { s with ppu := _ }) ⟨h.on, rfl, h.clock, h.line⟩

theorem State.StartsMode.afterTransfer {s : State} {l : Nat} (h : s.StartsMode .transfer l) :
    (s.ppuAdvance 172).StartsMode .hBlank l := by
  rw [show 172 = PpuMode.transfer.budget from rfl, h.ppuAdvance_budget, State.exitMode_transfer h.mode]
  exact State.startsMode_evalStat (s := { s with ppu := _ }) ⟨h.on, rfl, h.clock, h.line⟩

/-- The scan and the transfer of a line take it to its horizontal blank. -/
theorem State.StartsMode.ppuAdvance_line {s : State} {l : Nat} (h : s.StartsMode .oamScan l) :
    ∃ t : State, t.StartsMode .hBlank l ∧ s.ppuAdvance 456 = t.exitHBlank := by
  have ht := h.afterScan.afterTransfer
  refine ⟨_, ht, ?_⟩
  rw [← State.exitMode_hBlank ht.mode, ← ht.ppuAdvance_budget, State.ppuAdvance_add, State.ppuAdvance_add]
  rfl

theorem State.StartsMode.visibleLine {s : State} {l : Nat} (h : s.StartsMode .oamScan l) (hl : l < 143) :
    (s.ppuAdvance 456).StartsMode .oamScan (l + 1) := by
  obtain ⟨t, ht, he⟩ := h.ppuAdvance_line
  have hline := ht.line
  have hnext : t.ppu.nextLine.ly.toNat = l + 1 := by
    show (t.ppu.ly + 1).toNat = l + 1
    bv_omega
  rw [he]
  unfold State.exitHBlank
  dsimp only
  rw [if_neg (fun h144 => by rw [h144] at hnext; exact absurd hnext (by show ¬ (144 : Nat) = _; omega))]
  exact State.startsMode_evalStat (s := { t with ppu := _ }) ⟨ht.on, rfl, ht.clock, hnext⟩

theorem State.StartsMode.lastVisibleLine {s : State} (h : s.StartsMode .oamScan 143) :
    (s.ppuAdvance 456).StartsMode .vBlank 144 ∧ (s.ppuAdvance 456).Signalled := by
  obtain ⟨t, ht, he⟩ := h.ppuAdvance_line
  have hline : t.ppu.ly = 143 := BitVec.eq_of_toNat_eq ht.line
  have hnext : t.ppu.nextLine.ly = 144 := by
    show t.ppu.ly + 1 = 144
    rw [hline]
    rfl
  rw [he]
  unfold State.exitHBlank
  dsimp only
  rw [if_pos hnext]
  exact ⟨State.startsMode_evalStat (s := { t.requestInterrupt .vBlank with ppu := _, host := _ })
    ⟨ht.on, rfl, ht.clock, congrArg BitVec.toNat hnext⟩, (t.signalled_vBlank _).evalStat⟩

theorem State.StartsMode.blankLine {s : State} {l : Nat} (h : s.StartsMode .vBlank l) (hl : l < 153) :
    (s.ppuAdvance 456).StartsMode .vBlank (l + 1) := by
  have hline := h.line
  have hnext : (s.ppu.ly + 1).toNat = l + 1 := by bv_omega
  rw [show 456 = PpuMode.vBlank.budget from rfl, h.ppuAdvance_budget, State.exitMode_vBlank h.mode]
  unfold State.exitVBlankLine
  rw [if_neg (fun h154 => by rw [h154] at hnext; exact absurd hnext (by show ¬ (154 : Nat) = _; omega))]
  exact State.startsMode_evalStat (s := { s with ppu := _ }) ⟨h.on, h.mode, h.clock, hnext⟩

theorem State.StartsMode.lastLine {s : State} (h : s.StartsMode .vBlank 153) :
    (s.ppuAdvance 456).StartsMode .oamScan 0 ∧ (s.ppuAdvance 456).ppu.winLine = 0 := by
  have hline : s.ppu.ly = 153 := BitVec.eq_of_toNat_eq h.line
  rw [show 456 = PpuMode.vBlank.budget from rfl, h.ppuAdvance_budget, State.exitMode_vBlank h.mode]
  unfold State.exitVBlankLine
  rw [if_pos (by rw [hline]; rfl)]
  exact ⟨State.startsMode_evalStat (s := { s with ppu := _ }) ⟨h.on, rfl, h.clock, rfl⟩,
    congrArg Ppu.winLine (State.evalStat_ppu _)⟩

theorem State.StartsMode.visibleLines {s : State} (h : s.StartsMode .oamScan 0) :
    ∀ l, l ≤ 143 → (s.ppuAdvance (456 * l)).StartsMode .oamScan l
  | 0, _ => h.ppuAdvance_zero
  | l + 1, hl => by
    rw [Nat.mul_succ, ← State.ppuAdvance_add]
    exact (h.visibleLines l (by omega)).visibleLine (by omega)

theorem State.StartsMode.blankLines {s : State} (h : s.StartsMode .vBlank 144) :
    ∀ l, l ≤ 9 → (s.ppuAdvance (456 * l)).StartsMode .vBlank (144 + l)
  | 0, _ => h.ppuAdvance_zero
  | l + 1, hl => by
    rw [Nat.mul_succ, ← State.ppuAdvance_add]
    exact (h.blankLines l (by omega)).blankLine (by omega)

/-! ### The clock of the display as the rules write it -/

theorem State.ppuAdvance_scan_end {s : State} {n : Nat} (hon : s.ppu.on = true) (hm : s.ppu.mode = .oamScan)
    (hge : 80 ≤ s.ppu.modeClock + n) (hlt : s.ppu.modeClock + n < 80 + 172) :
    s.ppuAdvance n = (s.withModeClock (s.ppu.modeClock + n - 80)).exitScan := by
  have hnext : s.exitMode.ppu.mode.budget = 172 := by rw [State.exitMode_oamScan hm, s.exitScan_mode]; rfl
  have hbudget : s.ppu.mode.budget = 80 := by rw [hm]; rfl
  rw [State.ppuAdvance_of_exit hon (by omega) (by omega), hbudget, State.exitMode_withModeClock, State.exitMode_oamScan hm,
    State.exitScan_withModeClock]

theorem State.ppuAdvance_transfer_end {s : State} {n : Nat} (hon : s.ppu.on = true) (hm : s.ppu.mode = .transfer)
    (hge : 172 ≤ s.ppu.modeClock + n) (hlt : s.ppu.modeClock + n < 172 + 204) :
    s.ppuAdvance n = (s.withModeClock (s.ppu.modeClock + n - 172)).exitTransfer := by
  have hnext : s.exitMode.ppu.mode.budget = 204 := by rw [State.exitMode_transfer hm, s.exitTransfer_mode]; rfl
  have hbudget : s.ppu.mode.budget = 172 := by rw [hm]; rfl
  rw [State.ppuAdvance_of_exit hon (by omega) (by omega), hbudget, State.exitMode_withModeClock, State.exitMode_transfer hm,
    State.exitTransfer_withModeClock]

theorem State.ppuAdvance_hBlank_end {s : State} {n : Nat} (hon : s.ppu.on = true) (hm : s.ppu.mode = .hBlank)
    (hge : 204 ≤ s.ppu.modeClock + n) (hlt : s.ppu.modeClock + n < 204 + 80) :
    s.ppuAdvance n = (s.withModeClock (s.ppu.modeClock + n - 204)).exitHBlank := by
  have hnext := s.exitMode.ppu.mode.le_budget
  have hbudget : s.ppu.mode.budget = 204 := by rw [hm]; rfl
  rw [State.ppuAdvance_of_exit hon (by omega) (by omega), hbudget, State.exitMode_withModeClock, State.exitMode_hBlank hm,
    State.exitHBlank_withModeClock]

theorem State.ppuAdvance_blank_end {s : State} {n : Nat} (hon : s.ppu.on = true) (hm : s.ppu.mode = .vBlank)
    (hge : 456 ≤ s.ppu.modeClock + n) (hlt : s.ppu.modeClock + n < 456 + 80) :
    s.ppuAdvance n = (s.withModeClock (s.ppu.modeClock + n - 456)).exitVBlankLine := by
  have hnext := s.exitMode.ppu.mode.le_budget
  have hbudget : s.ppu.mode.budget = 456 := by rw [hm]; rfl
  rw [State.ppuAdvance_of_exit hon (by omega) (by omega), hbudget, State.exitMode_withModeClock, State.exitMode_vBlank hm,
    State.exitVBlankLine_withModeClock]

/-- The line after 143 is the first of vertical blank (R566). -/
theorem State.exitHBlank_eq (s : State) :
    s.exitHBlank
      = if s.ppu.ly.toNat = 143 then
          { s with
            iflag := s.iflag ||| 0b00001#5
            ppu := { s.ppu.nextLine with mode := .vBlank }
            host := { s.host with frameReady := true } }.evalStat
        else { s with ppu := { s.ppu.nextLine with mode := .oamScan } }.evalStat := by
  have hly : s.ppu.nextLine.ly = 144 ↔ s.ppu.ly.toNat = 143 := by
    show s.ppu.ly + 1 = 144 ↔ _
    bv_omega
  unfold State.exitHBlank
  dsimp only
  simp only [hly]
  rfl

/-- The line after 153 is line 0 (R567). -/
theorem State.exitVBlankLine_eq (s : State) :
    s.exitVBlankLine
      = if s.ppu.ly.toNat = 153 then { s with ppu := { s.ppu with ly := 0, winLine := 0, mode := .oamScan } }.evalStat
        else { s with ppu := { s.ppu with ly := s.ppu.ly + 1 } }.evalStat := by
  have hly : s.ppu.ly + 1 = 154 ↔ s.ppu.ly.toNat = 153 := by bv_omega
  unfold State.exitVBlankLine
  simp only [hly]

/-- From the start of line 0 a frame's worth of cycles leads back to it, with the signal and the request of its line 144. -/
theorem State.StartsMode.frame {s : State} (h : s.StartsMode .oamScan 0) :
    (s.ppuAdvance 70224).StartsMode .oamScan 0 ∧ (s.ppuAdvance 70224).ppu.winLine = 0 ∧ (s.ppuAdvance 70224).Signalled := by
  have hframe : s.ppuAdvance 70224
      = (((s.ppuAdvance (456 * 143)).ppuAdvance 456).ppuAdvance (456 * 9)).ppuAdvance 456 := by
    simp only [State.ppuAdvance_add]
  obtain ⟨hblank, hsignal⟩ := (h.visibleLines 143 (Nat.le_refl _)).lastVisibleLine
  obtain ⟨hstart, hwindow⟩ := (hblank.blankLines 9 (Nat.le_refl _)).lastLine
  rw [hframe]
  exact ⟨hstart, hwindow, (hsignal.ppuAdvance _).ppuAdvance _⟩

/-- What neither the STAT line nor an exit action reaches. -/
def State.besidePpu (s : State) : Memory × Memory × Regs := (s.vram, s.oam, s.regs)

theorem ppuBlind_besidePpu : PpuBlind State.besidePpu := ⟨fun _ _ => rfl, fun _ => rfl, fun _ => rfl, fun _ _ => rfl⟩

/-- Settles O55: a batch is the boundaries it crosses, batches add up, and a frame is its 154 lines. -/
theorem frameIsSeventyThousandCycles : Obligations.FrameIsSeventyThousandCycles := by
  refine ⟨fun s n hon => ?_, fun s m n _ => s.ppuAdvance_add m n, fun s hon hm hclock hline => ?_⟩
  · dsimp only
    refine ⟨fun hlt => ?_, State.ppuAdvance_scan_end hon, fun hm hge hlt => ?_, fun hm hge hlt => ?_, fun hm hge hlt => ?_⟩
    · have hbudget : s.ppu.modeClock + n < s.ppu.mode.budget := by
        revert hlt
        cases s.ppu.mode <;> exact id
      exact State.ppuAdvance_of_lt hon hbudget
    · rw [State.ppuAdvance_transfer_end hon hm hge hlt, State.exitTransfer_withModeClock]
      exact (State.evalStat_withModeClock _ _).symm
    · rw [State.ppuAdvance_hBlank_end hon hm hge hlt]
      generalize s.ppu.modeClock + n - 204 = c
      exact (s.withModeClock c).exitHBlank_eq
    · rw [State.ppuAdvance_blank_end hon hm hge hlt]
      generalize s.ppu.modeClock + n - 456 = c
      exact (s.withModeClock c).exitVBlankLine_eq
  · obtain ⟨hstart, hwindow, hready, hrequest⟩ :=
      State.StartsMode.frame (s := s) ⟨hon, hm, hclock, congrArg BitVec.toNat hline⟩
    have hkept : (s.ppuAdvance 70224).besidePpu = s.besidePpu := ppuBlind_besidePpu.ppuAdvance 70224 s
    obtain ⟨hvram, hrest⟩ := Prod.ext_iff.1 hkept
    obtain ⟨hoam, hregs⟩ := Prod.ext_iff.1 hrest
    exact ⟨hstart.mode, hstart.clock, BitVec.eq_of_toNat_eq hstart.line, hwindow, s.ppuAdvance_lcdc _, hready, hrequest,
      hvram, hoam, hregs⟩

end Sys2Proof.Machine

/-!
SUPPORT. The rasterizer: what one pixel of each layer is, the sprites selected and their order, and the pixel a column ends
with.
-/
namespace Sys2Proof.Machine

/-! ### Pixels and shades as numbers -/

theorem tilePixel_toNat (lo hi : Byte) (c : Nat) :
    (tilePixel lo hi c).toNat = 2 * (hi.getLsbD (7 - c)).toNat + (lo.getLsbD (7 - c)).toNat := by
  have hbits : ∀ h l : Bool, (BitVec.ofBool h ++ BitVec.ofBool l).toNat = 2 * h.toNat + l.toNat := by decide
  exact hbits _ _

theorem paletteShade_toNat (pal : Byte) (idx : BitVec 2) :
    (paletteShade pal idx).toNat = pal.toNat / 4 ^ idx.toNat % 4 := by
  unfold paletteShade
  rw [BitVec.toNat_setWidth, BitVec.toNat_ushiftRight, Nat.shiftRight_eq_div_pow, Nat.pow_mul]

/-- The signed numbering puts the tiles 128 to 255 below 0x1000 (R580). -/
theorem Ppu.tileBase_eq (p : Ppu) (t : Byte) :
    p.tileBase t
      = if p.lcdc.getLsbD 4 then t.toNat * 16
        else if t.toNat < 128 then 0x1000 + t.toNat * 16 else 0x1000 - (256 - t.toNat) * 16 := by
  have ht := t.isLt
  have hint := BitVec.toInt_eq_toNat_cond t
  unfold Ppu.tileBase Ppu.lcdcBit
  split
  · rfl
  · split <;> split at hint <;> omega

/-- A background or window tile lies below the maps. -/
theorem Ppu.tileBase_lt (p : Ppu) (t : Byte) : p.tileBase t + 16 ≤ 0x1800 := by
  have ht := t.isLt
  rw [p.tileBase_eq]
  split
  · omega
  · split <;> omega

/-! ### The background and the window -/

theorem Ppu.bgIndexAt_off {p : Ppu} (vram : Memory) (y x : Nat) (h : p.lcdc.getLsbD 0 = false) : p.bgIndexAt vram y x = 0 :=
  if_pos (show (!p.lcdc.getLsbD 0) = true by rw [h]; rfl)

theorem Ppu.bgIndexAt_on {p : Ppu} (vram : Memory) (y x : Nat) (h : p.lcdc.getLsbD 0 = true) :
    p.bgIndexAt vram y x
      = if p.windowAt y x then p.layerIndex vram (mapBase (p.lcdcBit 6)) (x + 7 - p.wx.toNat) p.winLine
        else p.layerIndex vram (mapBase (p.lcdcBit 3)) ((x + p.scx.toNat) % 256) ((y + p.scy.toNat) % 256) :=
  if_neg (show ¬ (!p.lcdc.getLsbD 0) = true by rw [h]; decide)

theorem Ppu.windowAt_on {p : Ppu} (y x : Nat) (h : p.lcdc.getLsbD 0 = true) :
    p.windowAt y x = (p.lcdc.getLsbD 5 && decide (p.wy.toNat ≤ y) && decide (p.wx.toNat ≤ x + 7)) := by
  unfold Ppu.windowAt Ppu.lcdcBit
  rw [h, Bool.true_and]

theorem Ppu.layerIndex_toNat (p : Ppu) (vram : Memory) (map px py : Nat) :
    (p.layerIndex vram map px py).toNat
      = 2 * ((vram.read (p.tileBase (vram.read (map + 32 * (py / 8) + px / 8)) + 2 * (py % 8) + 1)).getLsbD (7 - px % 8)).toNat
        + ((vram.read (p.tileBase (vram.read (map + 32 * (py / 8) + px / 8)) + 2 * (py % 8))).getLsbD (7 - px % 8)).toNat :=
  tilePixel_toNat _ _ _

theorem Ppu.bgShade_toNat (p : Ppu) (idx : BitVec 2) :
    (p.bgShade idx).toNat = if p.lcdc.getLsbD 0 then p.bgp.toNat / 4 ^ idx.toNat % 4 else 0 := by
  unfold Ppu.bgShade Ppu.lcdcBit
  split
  · exact paletteShade_toNat _ _
  · rfl

/-- With all-zero tile data every layer has the index 0. -/
theorem Ppu.layerIndex_of_blank {p : Ppu} {vram : Memory} (map px py : Nat) (h : ∀ k, k < 0x1800 → vram.read k = 0) :
    p.layerIndex vram map px py = 0 := by
  have hbase := p.tileBase_lt (vram.read (map + 32 * (py / 8) + px / 8))
  apply BitVec.eq_of_toNat_eq
  rw [p.layerIndex_toNat, h _ (by omega), h _ (by omega)]
  simp

theorem Ppu.bgIndexAt_of_blank {p : Ppu} {vram : Memory} (y x : Nat) (h : ∀ k, k < 0x1800 → vram.read k = 0) :
    p.bgIndexAt vram y x = 0 := by
  cases hon : p.lcdc.getLsbD 0 with
  | false => exact Ppu.bgIndexAt_off vram y x hon
  | true =>
    rw [Ppu.bgIndexAt_on vram y x hon]
    split <;> exact Ppu.layerIndex_of_blank _ _ _ h

/-- The window supplies a pixel of the line exactly if it supplies the last one (R582). -/
theorem Ppu.windowUsed_iff (p : Ppu) (y : Nat) :
    p.windowUsed y = true
      ↔ p.lcdc.getLsbD 0 = true ∧ p.lcdc.getLsbD 5 = true ∧ p.wy.toNat ≤ y ∧ p.wx.toNat ≤ 166 := by
  simp only [Ppu.windowUsed, Ppu.windowAt, Ppu.lcdcBit, List.any_eq_true, List.mem_range, Bool.and_eq_true, decide_eq_true_eq]
  constructor
  · rintro ⟨x, hx, ⟨⟨h0, h5⟩, hy⟩, hwx⟩
    exact ⟨h0, h5, hy, by omega⟩
  · rintro ⟨h0, h5, hy, hwx⟩
    exact ⟨159, by decide, ⟨⟨h0, h5⟩, hy⟩, hwx⟩

theorem Ppu.getD_bgRow (p : Ppu) (vram : Memory) (y : Nat) {x : Nat} (hx : x < 160) :
    (p.bgRow vram y).getD x 0 = p.bgIndexAt vram y x := by
  simp [Ppu.bgRow, List.getD, List.getElem?_map, List.getElem?_range hx]

/-! ### The sprites on a line -/

theorem Sprite.onLine_iff (sp : Sprite) (h y : Nat) :
    sp.onLine h y = true ↔ sp.y.toNat ≤ y + 16 ∧ y + 16 < sp.y.toNat + h := by
  simp [Sprite.onLine]

theorem mem_zipIdx_iff {α : Type} {l : List α} {e : α × Nat} : e ∈ l.zipIdx ↔ l[e.2]? = some e.1 :=
  List.mem_zipIdx_iff_getElem?

theorem pairwise_zipIdx {α : Type} (l : List α) : l.zipIdx.Pairwise (fun e e' => e.2 < e'.2) := by
  rw [← List.pairwise_map (f := Prod.snd) (R := (· < ·)), List.zipIdx_map_snd]
  exact List.pairwise_lt_range'

/-- All the sprites on the line, in index order. -/
def Ppu.spritesOnLine (p : Ppu) (y : Nat) : List (Sprite × Nat) :=
  p.sprites.zipIdx.filter (fun e => e.1.onLine p.spriteHeight y)

theorem Ppu.selectSprites_eq (p : Ppu) (y : Nat) : p.selectSprites y = (p.spritesOnLine y).take 10 := rfl

theorem Ppu.mem_spritesOnLine {p : Ppu} {y : Nat} {e : Sprite × Nat} :
    e ∈ p.spritesOnLine y ↔ p.sprites[e.2]? = some e.1 ∧ e.1.y.toNat ≤ y + 16 ∧ y + 16 < e.1.y.toNat + p.spriteHeight := by
  rw [Ppu.spritesOnLine, List.mem_filter, mem_zipIdx_iff, Sprite.onLine_iff]

theorem Ppu.pairwise_spritesOnLine (p : Ppu) (y : Nat) : (p.spritesOnLine y).Pairwise (fun e e' => e.2 < e'.2) :=
  (pairwise_zipIdx p.sprites).filter _

/-- A sprite on the line that is not among the first ten comes after ten others. -/
theorem Ppu.selected_or_after_ten {p : Ppu} {y : Nat} {e : Sprite × Nat} (he : e ∈ p.spritesOnLine y) :
    e ∈ p.selectSprites y ∨ ((p.selectSprites y).length = 10 ∧ ∀ e' ∈ p.selectSprites y, e'.2 < e.2) := by
  have hsplit : p.spritesOnLine y = p.selectSprites y ++ (p.spritesOnLine y).drop 10 :=
    (List.take_append_drop 10 (p.spritesOnLine y)).symm
  have hsorted := p.pairwise_spritesOnLine y
  rw [hsplit, List.mem_append] at he
  rw [hsplit, List.pairwise_append] at hsorted
  obtain ⟨-, -, hbefore⟩ := hsorted
  rcases he with he | he
  · exact .inl he
  · have hlength : 0 < ((p.spritesOnLine y).drop 10).length := List.length_pos_of_mem he
    rw [List.length_drop] at hlength
    refine .inr ⟨?_, fun e' he' => hbefore e' he' e he⟩
    rw [p.selectSprites_eq, List.length_take]
    omega

/-- The index of a sprite's column from its row and its bit (R590, R594). -/
theorem Sprite.index_toNat (sp : Sprite) (vram : Memory) (h y : Nat) {c : Nat} (hc : c < 8) :
    (sp.index vram h y c).toNat
      = 2 * ((vram.read (sp.tileNo h * 16 + 2 * sp.row h y + 1)).getLsbD (if sp.attr.getLsbD 5 then c else 7 - c)).toNat
        + ((vram.read (sp.tileNo h * 16 + 2 * sp.row h y)).getLsbD (if sp.attr.getLsbD 5 then c else 7 - c)).toNat := by
  unfold Sprite.index
  dsimp only
  rw [tilePixel_toNat]
  split
  · rw [show 7 - (7 - c) = c by omega]
  · rfl

theorem Sprite.tileNo_eq (sp : Sprite) (h : Nat) :
    sp.tileNo h = if h = 16 then sp.tile.toNat / 2 * 2 else sp.tile.toNat := by
  have heven : ∀ t : Byte, (t &&& 0xFE).toNat = t.toNat / 2 * 2 := by decide
  unfold Sprite.tileNo
  rw [heven]

/-! ### The order of the sprites -/

/-- `a` may stand before `b` in the drawing order (R593). -/
abbrev SpriteLe (a b : Sprite × Nat) : Prop := spriteBefore b a = false

theorem spriteBefore_iff (a b : Sprite × Nat) :
    spriteBefore a b = true ↔ a.1.x.toNat < b.1.x.toNat ∨ (a.1.x = b.1.x ∧ a.2 < b.2) := by
  simp [spriteBefore]

theorem spriteLe_iff (a b : Sprite × Nat) :
    SpriteLe a b ↔ a.1.x.toNat < b.1.x.toNat ∨ (a.1.x.toNat = b.1.x.toNat ∧ a.2 ≤ b.2) := by
  rw [SpriteLe, ← Bool.not_eq_true, spriteBefore_iff, ← BitVec.toNat_inj]
  omega

theorem spriteLe_total (a b : Sprite × Nat) : SpriteLe a b ∨ SpriteLe b a := by
  rw [spriteLe_iff, spriteLe_iff]
  omega

theorem spriteLe_trans {a b c : Sprite × Nat} (hab : SpriteLe a b) (hbc : SpriteLe b c) : SpriteLe a c := by
  rw [spriteLe_iff] at *
  omega

theorem insertSprite_eq_orderedInsert (a : Sprite × Nat) : ∀ l, insertSprite a l = l.orderedInsert SpriteLe a
  | [] => rfl
  | b :: l => by
    unfold insertSprite
    rw [insertSprite_eq_orderedInsert a l, List.orderedInsert_cons]
    by_cases hba : spriteBefore b a = true
    · rw [if_pos hba, if_neg (by rw [SpriteLe, hba]; decide)]
    · rw [if_neg hba, if_pos ((Bool.not_eq_true _).mp hba)]

theorem sortSprites_eq_insertionSort (l : List (Sprite × Nat)) : sortSprites l = l.insertionSort SpriteLe := by
  unfold sortSprites List.insertionSort
  rw [funext fun a => funext (insertSprite_eq_orderedInsert a)]

theorem mem_sortSprites {e : Sprite × Nat} {l : List (Sprite × Nat)} : e ∈ sortSprites l ↔ e ∈ l := by
  rw [sortSprites_eq_insertionSort, List.mem_insertionSort]

theorem pairwise_sortSprites (l : List (Sprite × Nat)) : (sortSprites l).Pairwise SpriteLe := by
  have : Std.Total SpriteLe := ⟨spriteLe_total⟩
  have : IsTrans _ SpriteLe := ⟨fun _ _ _ => spriteLe_trans⟩
  rw [sortSprites_eq_insertionSort]
  exact List.pairwise_insertionSort SpriteLe l

/-! ### The pixel of a column -/

/-- What a column of the line being drawn holds: its shade, and whether a sprite owns it. -/
def LineBuf.column (lb : LineBuf) (x : Nat) : BitVec 2 × Bool := (lb.row.getD x 0, lb.drawn.getD x false)

/-- The sprite covers column `x` with an opaque pixel that the background index `bg` does not hide (R590, R595). -/
abbrev Ppu.Paints (p : Ppu) (vram : Memory) (y x : Nat) (bg : BitVec 2) (sp : Sprite) : Prop :=
  sp.x.toNat ≤ x + 8 ∧ x < sp.x.toNat ∧ sp.index vram p.spriteHeight y (x + 8 - sp.x.toNat) ≠ 0
    ∧ (sp.attr.getLsbD 7 = false ∨ bg = 0)

/-- The shade of the sprite's pixel in column `x`. -/
def Ppu.spriteShade (p : Ppu) (vram : Memory) (y x : Nat) (sp : Sprite) : BitVec 2 :=
  paletteShade (p.spritePalette sp) (sp.index vram p.spriteHeight y (x + 8 - sp.x.toNat))

/-- What drawing the sprite makes of column `x`. -/
def Ppu.paintColumn (p : Ppu) (vram : Memory) (y x : Nat) (bg : BitVec 2) (col : BitVec 2 × Bool) (sp : Sprite) :
    BitVec 2 × Bool :=
  if col.2 = false ∧ p.Paints vram y x bg sp then (p.spriteShade vram y x sp, true) else col

theorem getD_set_eq {α : Type} {l : List α} {i : Nat} (a d : α) (h : i < l.length) : (l.set i a).getD i d = a := by
  simp [List.getD, h]

theorem getD_set_ne {α : Type} {l : List α} {i j : Nat} (a d : α) (h : i ≠ j) : (l.set i a).getD j d = l.getD j d := by
  simp [List.getD, List.getElem?_set_ne h]

section

variable (p : Ppu) (vram : Memory) (y x : Nat) (bg : List (BitVec 2)) (sp : Sprite)

/-- Column `c` of the sprite reaches column `x` of the line if it lies `c` right of the sprite's left edge. -/
theorem Ppu.drawPixel_column {lb : LineBuf} (hlb : lb.Wide) {c : Nat} (hc : c < 8) (hx : x < 160) :
    (p.drawPixel vram y bg sp lb c).column x
      = if sp.x.toNat + c = x + 8 then p.paintColumn vram y x (bg.getD x 0) (lb.column x) sp else lb.column x := by
  obtain ⟨hrow, hdrawn⟩ := hlb
  by_cases hcol : sp.x.toNat + c = x + 8
  · have hcol' : sp.x.toNat + c - 8 = x := by omega
    have hindex : x + 8 - sp.x.toNat = c := by omega
    have hcover : sp.x.toNat ≤ x + 8 ∧ x < sp.x.toNat := by omega
    unfold Ppu.drawPixel Ppu.paintColumn Ppu.Paints Ppu.spriteShade
    rw [if_neg (by omega), if_pos hcol]
    dsimp only
    rw [hcol', hindex]
    have howned : (lb.column x).2 = lb.drawn.getD x false := rfl
    have hhidden : (sp.attr.getLsbD 7 && bg.getD x 0 != 0) = true ↔ ¬ (sp.attr.getLsbD 7 = false ∨ bg.getD x 0 = 0) := by
      rw [Bool.and_eq_true, bne_iff_ne, not_or, Bool.not_eq_false]
    rw [howned]
    split
    next h => rw [if_neg fun hc => Bool.false_ne_true (hc.1.symm.trans h)]
    next hfree =>
      split
      next h => rw [if_neg fun ⟨_, _, _, hopaque, _⟩ => hopaque h]
      next hopaque =>
        split
        next h => rw [if_neg fun ⟨_, _, _, _, hshown⟩ => hhidden.1 h hshown]
        next h =>
          rw [hhidden, not_not] at h
          rw [if_pos ⟨(Bool.not_eq_true _).mp hfree, hcover.1, hcover.2, hopaque, h⟩]
          exact Prod.ext (getD_set_eq _ _ (by omega)) (getD_set_eq _ _ (by omega))
  · rw [if_neg hcol]
    unfold Ppu.drawPixel
    dsimp only
    split
    · rfl
    split
    · rfl
    split
    · rfl
    split
    · rfl
    · exact Prod.ext (getD_set_ne _ _ (by omega)) (getD_set_ne _ _ (by omega))

theorem Ppu.paintColumn_idem (b : BitVec 2) (col : BitVec 2 × Bool) :
    p.paintColumn vram y x b (p.paintColumn vram y x b col sp) sp = p.paintColumn vram y x b col sp := by
  unfold Ppu.paintColumn
  by_cases h : col.2 = false ∧ p.Paints vram y x b sp
  · rw [if_pos h, if_neg (by simp)]
  · rw [if_neg h, if_neg h]

/-- Some columns of the sprite, left to right: the line's column is painted if one of them reaches it. -/
theorem Ppu.drawPixels_column (hx : x < 160) : ∀ (cs : List Nat) {lb : LineBuf}, lb.Wide → (∀ c ∈ cs, c < 8) →
    (cs.foldl (p.drawPixel vram y bg sp) lb).column x
      = if ∃ c ∈ cs, sp.x.toNat + c = x + 8 then p.paintColumn vram y x (bg.getD x 0) (lb.column x) sp else lb.column x
  | [], _, _, _ => by simp
  | c :: cs, lb, hlb, hcs => by
    obtain ⟨hc, hcs⟩ := List.forall_mem_cons.1 hcs
    have hrest := Ppu.drawPixels_column hx cs (p.drawPixel_wide vram y bg sp lb c hlb) hcs
    rw [List.foldl_cons, hrest, p.drawPixel_column vram y x bg sp hlb hc hx]
    simp only [List.exists_mem_cons_iff]
    by_cases hcol : sp.x.toNat + c = x + 8
    · simp only [hcol, if_true, true_or, p.paintColumn_idem, ite_self]
    · simp only [hcol, if_false, false_or]

/-- Drawing a sprite paints each column of the line at most once. -/
theorem Ppu.drawSprite_column {lb : LineBuf} (hlb : lb.Wide) (hx : x < 160) :
    (p.drawSprite vram y bg lb sp).column x = p.paintColumn vram y x (bg.getD x 0) (lb.column x) sp := by
  unfold Ppu.drawSprite
  rw [p.drawPixels_column vram y x bg sp hx _ hlb (fun c => List.mem_range.1)]
  by_cases hreach : ∃ c ∈ List.range 8, sp.x.toNat + c = x + 8
  · rw [if_pos hreach]
  · rw [if_neg hreach]
    refine (if_neg fun h => hreach ⟨x + 8 - sp.x.toNat, ?_⟩).symm
    obtain ⟨-, hle, hlt, -⟩ := h
    rw [List.mem_range]
    omega

end

theorem Ppu.drawSprites_column {p : Ppu} (vram : Memory) (y x : Nat) (bg : List (BitVec 2)) (hx : x < 160) :
    ∀ (sps : List Sprite) {lb : LineBuf}, lb.Wide →
    (sps.foldl (p.drawSprite vram y bg) lb).column x = sps.foldl (p.paintColumn vram y x (bg.getD x 0)) (lb.column x)
  | [], _, _ => rfl
  | sp :: sps, lb, hlb => by
    rw [List.foldl_cons, List.foldl_cons, ← p.drawSprite_column vram y x bg sp hlb hx]
    exact Ppu.drawSprites_column vram y x bg hx sps (p.drawSprite_wide vram y bg lb sp hlb)

section

variable (p : Ppu) (vram : Memory) (y x : Nat) (bg : BitVec 2)

theorem Ppu.paintColumns_owned {col : BitVec 2 × Bool} (hcol : col.2 = true) :
    ∀ sps : List Sprite, sps.foldl (p.paintColumn vram y x bg) col = col
  | [] => rfl
  | sp :: sps => by
    have hstep : p.paintColumn vram y x bg col sp = col := if_neg (by simp [hcol])
    rw [List.foldl_cons, hstep]
    exact Ppu.paintColumns_owned hcol sps

theorem Ppu.paintColumns_none (col : BitVec 2 × Bool) : ∀ {sps : List Sprite}, (∀ sp ∈ sps, ¬ p.Paints vram y x bg sp) →
    sps.foldl (p.paintColumn vram y x bg) col = col
  | [], _ => rfl
  | sp :: sps, h => by
    obtain ⟨hsp, hsps⟩ := List.forall_mem_cons.1 h
    have hstep : p.paintColumn vram y x bg col sp = col := if_neg fun hc => hsp hc.2
    rw [List.foldl_cons, hstep]
    exact Ppu.paintColumns_none col hsps

/-- The first sprite in the drawing order that paints a free column owns it. -/
theorem Ppu.paintColumns_first {col : BitVec 2 × Bool} (hcol : col.2 = false) {pre post : List Sprite} {sp : Sprite}
    (hpre : ∀ sp' ∈ pre, ¬ p.Paints vram y x bg sp') (hsp : p.Paints vram y x bg sp) :
    (pre ++ sp :: post).foldl (p.paintColumn vram y x bg) col = (p.spriteShade vram y x sp, true) := by
  have hstep : p.paintColumn vram y x bg col sp = (p.spriteShade vram y x sp, true) := if_pos ⟨hcol, hsp⟩
  rw [List.foldl_append, p.paintColumns_none vram y x bg col hpre, List.foldl_cons, hstep]
  exact p.paintColumns_owned vram y x bg rfl post

end

/-! ### The rendered line -/

/-- The line before its sprites are drawn: the shades of the background, and the columns owned from before. -/
def Ppu.bgLine (p : Ppu) (vram : Memory) (y : Nat) : LineBuf where
  row := (p.bgRow vram y).map p.bgShade
  drawn := p.objDrawn

theorem Ppu.bgLine_wide {p : Ppu} (vram : Memory) (y : Nat) (h : p.objDrawn.length = 160) : (p.bgLine vram y).Wide :=
  ⟨List.length_map _ |>.trans (p.length_bgRow vram y), h⟩

theorem Ppu.bgLine_column (p : Ppu) (vram : Memory) (y : Nat) {x : Nat} (hx : x < 160) :
    (p.bgLine vram y).column x = (p.bgShade (p.bgIndexAt vram y x), p.objDrawn.getD x false) := by
  simp [Ppu.bgLine, LineBuf.column, Ppu.bgRow, List.getD, List.getElem?_map, List.getElem?_range hx]

/-- What a rendered line holds in a column (R582, R590): the column of the background line, painted by the selected sprites. -/
theorem Ppu.renderLine_column {p : Ppu} (vram : Memory) {y : Nat} (x : Nat) (hy : y < p.fb.length) :
    (((p.renderLine vram y).fb.getD y []).getD x 0, (p.renderLine vram y).objDrawn.getD x false)
      = (p.drawSprites vram y (p.bgRow vram y) (p.bgLine vram y)).column x :=
  Prod.ext (congrArg (fun row : List (BitVec 2) => row.getD x 0) (getD_set_eq _ _ hy)) rfl

theorem Ppu.drawSprites_off {p : Ppu} (vram : Memory) (y : Nat) (bg : List (BitVec 2)) (lb : LineBuf)
    (h : p.lcdc.getLsbD 1 = false) : p.drawSprites vram y bg lb = lb :=
  if_neg (show ¬ p.lcdc.getLsbD 1 = true by rw [h]; decide)

theorem Ppu.drawSprites_on {p : Ppu} (vram : Memory) (y : Nat) (bg : List (BitVec 2)) (lb : LineBuf)
    (h : p.lcdc.getLsbD 1 = true) :
    p.drawSprites vram y bg lb = ((sortSprites (p.selectSprites y)).map Prod.fst).foldl (p.drawSprite vram y bg) lb :=
  if_pos h

/-- A selected sprite that paints column `x`, with sprites on and the column free. -/
def Ppu.ShowsAt (p : Ppu) (vram : Memory) (y x : Nat) (e : Sprite × Nat) : Prop :=
  p.lcdc.getLsbD 1 = true ∧ p.objDrawn.getD x false = false ∧ e ∈ p.selectSprites y
    ∧ p.Paints vram y x (p.bgIndexAt vram y x) e.1

section

variable {p : Ppu} {vram : Memory} {y x : Nat} (hx : x < 160) (hdrawn : p.objDrawn.length = 160)

include hx hdrawn

theorem Ppu.drawnLine_column (hon : p.lcdc.getLsbD 1 = true) :
    (p.drawSprites vram y (p.bgRow vram y) (p.bgLine vram y)).column x
      = ((sortSprites (p.selectSprites y)).map Prod.fst).foldl (p.paintColumn vram y x (p.bgIndexAt vram y x))
          (p.bgShade (p.bgIndexAt vram y x), p.objDrawn.getD x false) := by
  rw [Ppu.drawSprites_on _ _ _ _ hon, Ppu.drawSprites_column vram y x _ hx _ (Ppu.bgLine_wide vram y hdrawn),
    p.bgLine_column vram y hx, p.getD_bgRow vram y hx]

/-- Without a sprite that shows, the column keeps its background. -/
theorem Ppu.column_of_none (h : ∀ e, ¬ p.ShowsAt vram y x e) :
    (p.drawSprites vram y (p.bgRow vram y) (p.bgLine vram y)).column x
      = (p.bgShade (p.bgIndexAt vram y x), p.objDrawn.getD x false) := by
  cases hon : p.lcdc.getLsbD 1 with
  | false => rw [Ppu.drawSprites_off _ _ _ _ hon, p.bgLine_column vram y hx]
  | true =>
    rw [Ppu.drawnLine_column hx hdrawn hon]
    cases hfree : p.objDrawn.getD x false with
    | true => exact p.paintColumns_owned vram y x _ rfl _
    | false =>
      refine p.paintColumns_none vram y x _ _ fun sp hsp hpaints => ?_
      obtain ⟨e, he, rfl⟩ := List.mem_map.1 hsp
      exact h e ⟨hon, hfree, mem_sortSprites.1 he, hpaints⟩

/-- Of the sprites that show, the one before all others in the drawing order gives the pixel and owns the column (R593, R595). -/
theorem Ppu.column_of_first {e : Sprite × Nat} (he : p.ShowsAt vram y x e)
    (hfirst : ∀ e', p.ShowsAt vram y x e' → e' ≠ e → spriteBefore e e' = true) :
    (p.drawSprites vram y (p.bgRow vram y) (p.bgLine vram y)).column x = (p.spriteShade vram y x e.1, true) := by
  obtain ⟨hon, hfree, hmem, hpaints⟩ := he
  have hsome : ∃ e', (sortSprites (p.selectSprites y)).find?
      (fun e' => decide (p.Paints vram y x (p.bgIndexAt vram y x) e'.1)) = some e' :=
    Option.isSome_iff_exists.1 (List.find?_isSome.2 ⟨e, mem_sortSprites.2 hmem, decide_eq_true hpaints⟩)
  obtain ⟨e', hfind⟩ := hsome
  obtain ⟨hpaints', pre, post, hsplit, hpre⟩ := List.find?_eq_some_iff_append.1 hfind
  have hpre' : ∀ a ∈ pre, ¬ p.Paints vram y x (p.bgIndexAt vram y x) a.1 := fun a ha =>
    of_decide_eq_false ((Bool.not_eq_true' _).mp (hpre a ha))
  have hsame : e' = e := by
    by_contra hne
    have hshows' : p.ShowsAt vram y x e' :=
      ⟨hon, hfree, mem_sortSprites.1 (hsplit ▸ List.mem_append_right pre List.mem_cons_self), of_decide_eq_true hpaints'⟩
    have hsorted := pairwise_sortSprites (p.selectSprites y)
    have hmem' := mem_sortSprites.2 hmem
    rw [hsplit, List.mem_append, List.mem_cons] at hmem'
    rw [hsplit, List.pairwise_append, List.pairwise_cons] at hsorted
    obtain ⟨-, ⟨hlater, -⟩, -⟩ := hsorted
    rcases hmem' with hmem' | hmem' | hmem'
    · exact hpre' e hmem' hpaints
    · exact hne hmem'.symm
    · exact Bool.false_ne_true ((hlater e hmem').symm.trans (hfirst e' hshows' hne))
  subst hsame
  rw [Ppu.drawnLine_column hx hdrawn hon, hfree, hsplit, List.map_append, List.map_cons]
  refine p.paintColumns_first vram y x _ rfl (fun sp hsp => ?_) hpaints
  obtain ⟨a, ha, rfl⟩ := List.mem_map.1 hsp
  exact hpre' a ha

end

/-! ### The obligation part by part -/

theorem Ppu.bgIndexAt_toNat (p : Ppu) (vram : Memory) (y x : Nat) :
    let window : Bool := p.lcdc.getLsbD 5 && decide (p.wy.toNat ≤ y) && decide (p.wx.toNat ≤ x + 7)
    let px := if window then x + 7 - p.wx.toNat else (x + p.scx.toNat) % 256
    let py := if window then p.winLine else (y + p.scy.toNat) % 256
    let map := if p.lcdc.getLsbD (if window then 6 else 3) then 0x1C00 else 0x1800
    (p.bgIndexAt vram y x).toNat = if p.lcdc.getLsbD 0 then (p.layerIndex vram map px py).toNat else 0 := by
  intro window px py map
  cases hon : p.lcdc.getLsbD 0 with
  | false => rw [Ppu.bgIndexAt_off vram y x hon]; rfl
  | true =>
    have hwindow : p.windowAt y x = window := Ppu.windowAt_on y x hon
    rw [Ppu.bgIndexAt_on vram y x hon, hwindow, if_pos rfl]
    cases hw : window <;> simp only [px, py, map, hw] <;> rfl

theorem Ppu.renderLine_of_blank {p : Ppu} {vram : Memory} {y : Nat} (hon : p.lcdc.getLsbD 0 = true)
    (hoff : p.lcdc.getLsbD 1 = false) (hblank : ∀ k, k < 0x1800 → vram.read k = 0) (hy : y < p.fb.length) :
    (p.renderLine vram y).fb.getD y [] = List.replicate 160 (p.bgp.extractLsb' 0 2)
      ∧ (p.renderLine vram y).bgIdx = List.replicate 160 0 := by
  have hrow : p.bgRow vram y = List.replicate 160 0 :=
    List.eq_replicate_iff.2 ⟨p.length_bgRow vram y, fun b hb => by
      obtain ⟨x, -, rfl⟩ := List.mem_map.1 hb
      exact Ppu.bgIndexAt_of_blank y x hblank⟩
  have hshade : p.bgShade 0 = p.bgp.extractLsb' 0 2 := by
    have hpalette : p.bgShade 0 = paletteShade p.bgp 0 := if_pos hon
    rw [hpalette]
    exact BitVec.setWidth_eq_extractLsb' (by decide)
  have hline : (p.drawSprites vram y (p.bgRow vram y) (p.bgLine vram y)).row = List.replicate 160 (p.bgp.extractLsb' 0 2) := by
    rw [Ppu.drawSprites_off _ _ _ _ hoff, Ppu.bgLine, hrow, List.map_replicate, hshade]
  exact ⟨(getD_set_eq _ _ hy).trans hline, hrow⟩

/-- Settles O56: the layers by their index and shade, the selection as the first ten on the line, and the column of a line as
its background painted by the sorted sprites. -/
theorem renderingProperties : Obligations.RenderingProperties := by
  refine ⟨fun p vram y x => ?_, fun p vram y => ?_, fun p y => ?_, fun sp vram h y c _ hc => ?_,
    fun p vram y x hy hx hdrawn => ?_⟩
  · intro window px py map t base plane idx
    refine ⟨?_, p.bgShade_toNat idx⟩
    have hbase : p.tileBase (vram.read (map + 32 * (py / 8) + px / 8)) = base := p.tileBase_eq _
    refine (p.bgIndexAt_toNat vram y x).trans ?_
    refine if_congr Iff.rfl ?_ rfl
    refine (p.layerIndex_toNat vram map px py).trans ?_
    rw [hbase]
    rfl
  · intro q
    refine ⟨rfl, rfl, if_congr (p.windowUsed_iff y) rfl rfl, List.length_set, fun k hk => List.getElem?_set_ne hk.symm,
      Ppu.renderLine_of_blank⟩
  · refine ⟨List.length_take_le 10 _, fun e he => ?_, (p.pairwise_spritesOnLine y).sublist (List.take_sublist 10 _),
      fun i sp hi hlo hhi => ?_⟩
    · exact Ppu.mem_spritesOnLine.1 (List.mem_of_mem_take he)
    · exact Ppu.selected_or_after_ten (e := (sp, i)) (Ppu.mem_spritesOnLine.2 ⟨hi, hlo, hhi⟩)
  · have htile := sp.tileNo_eq h
    rw [sp.index_toNat vram h y hc]
    simp only [htile]
    rfl
  · intro q bg pixel idx shows
    have hcolumn := Ppu.renderLine_column vram x hy
    have hshows : ∀ e, shows e ↔ p.ShowsAt vram y x e := fun e => Iff.rfl
    refine ⟨fun hnone => ?_, fun e he hfirst => ?_⟩
    · rw [Ppu.column_of_none hx hdrawn hnone] at hcolumn
      exact Prod.ext_iff.1 hcolumn
    · have hbefore : ∀ e', p.ShowsAt vram y x e' → e' ≠ e → spriteBefore e e' = true := fun e' he' hne =>
        (spriteBefore_iff e e').2 (hfirst e' he' hne)
      rw [Ppu.column_of_first hx hdrawn he hbefore] at hcolumn
      obtain ⟨hpixel, howned⟩ := Prod.ext_iff.1 hcolumn
      exact ⟨(congrArg BitVec.toNat hpixel).trans (paletteShade_toNat _ _), howned⟩

end Sys2Proof.Machine

/-!
SUPPORT. The ports of the pixel processor.
-/
namespace Sys2Proof.Machine

theorem Ppu.readStat_eq (p : Ppu) :
    p.readStat
      = 0x80 ||| (p.statEn.setWidth 8 <<< 3) ||| (if p.ly = p.lyc then 0x04 else 0x00) ||| p.mode.code.setWidth 8 := by
  have hbits : ∀ (en : BitVec 4) (c : Bool) (m : BitVec 2), (1#1 ++ en ++ BitVec.ofBool c ++ m : Byte)
      = 0x80 ||| (en.setWidth 8 <<< 3) ||| (if c = true then 0x04 else 0x00) ||| m.setWidth 8 := by decide
  unfold Ppu.readStat
  rw [hbits]
  simp only [decide_eq_true_eq]

/-- The request of the STAT line, on its rising edge alone (R572). -/
theorem State.evalStat_rising {s : State} (h : s.ppu.on = true) :
    s.evalStat
      = { s with
          iflag := if s.ppu.statLine = true ∧ ¬ s.ppu.statLevel = true then s.iflag ||| 0b00010#5 else s.iflag
          ppu := { s.ppu with statLevel := s.ppu.statLine } } := by
  have hrise : (s.ppu.statLine && !s.ppu.statLevel) = true ↔ s.ppu.statLine = true ∧ ¬ s.ppu.statLevel = true := by
    rw [Bool.and_eq_true, Bool.not_eq_true', Bool.not_eq_true]
  rw [State.evalStat_of_on h, if_congr hrise rfl rfl]
  rfl

/-- Settles O54, port by port through the I/O table. -/
theorem statLineAndDisplaySwitch : Obligations.StatLineAndDisplaySwitch := by
  intro s v p level
  have hlcdc : MapsTo 0xFF40 .lcdc := by decide
  have hstat : MapsTo 0xFF41 .stat := by decide
  have hscy : MapsTo 0xFF42 .scy := by decide
  have hscx : MapsTo 0xFF43 .scx := by decide
  have hly : MapsTo 0xFF44 .ly := by decide
  have hlyc : MapsTo 0xFF45 .lyc := by decide
  have hbgp : MapsTo 0xFF47 .bgp := by decide
  have hobp0 : MapsTo 0xFF48 .obp0 := by decide
  have hobp1 : MapsTo 0xFF49 .obp1 := by decide
  have hwy : MapsTo 0xFF4A .wy := by decide
  have hwx : MapsTo 0xFF4B .wx := by decide
  refine ⟨fun hoff => ⟨State.evalStat_of_off hoff, fun n => State.ppuAdvance_off n hoff⟩, State.evalStat_rising,
    s.read8_of_mapsTo hlcdc, fun hkeep => ?_, fun hon hv => ?_, fun hoff hv => ?_, ?_, s.write8_of_mapsTo v hstat,
    s.read8_of_mapsTo hscy, s.write8_of_mapsTo v hscy, s.read8_of_mapsTo hscx, s.write8_of_mapsTo v hscx,
    s.read8_of_mapsTo hly, s.write8_of_mapsTo v hly, s.read8_of_mapsTo hlyc, s.write8_of_mapsTo v hlyc,
    s.read8_of_mapsTo hbgp, s.write8_of_mapsTo v hbgp, s.read8_of_mapsTo hobp0, s.write8_of_mapsTo v hobp0,
    s.read8_of_mapsTo hobp1, s.write8_of_mapsTo v hobp1, s.read8_of_mapsTo hwy, s.write8_of_mapsTo v hwy,
    s.read8_of_mapsTo hwx, s.write8_of_mapsTo v hwx⟩
  · exact (s.write8_of_mapsTo v hlcdc).trans (State.writeLcdc_keep hkeep)
  · exact (s.write8_of_mapsTo v hlcdc).trans (State.writeLcdc_off hon hv)
  · exact (s.write8_of_mapsTo v hlcdc).trans (State.writeLcdc_on hoff hv)
  · refine (s.read8_of_mapsTo hstat).trans (p.readStat_eq.trans ?_)
    cases p.mode <;> rfl

end Sys2Proof.Machine

/-!
SUPPORT. The counters of the audio processor: the ranges every tick, cycle, trigger and port keeps, and the rest of a
switched-off one.
-/
namespace Sys2Proof.Machine

/-! ### One channel -/

/-- The length counter of a channel is at most `len` and its frequency timer at most `period` (R622). -/
abbrev Chan.Within (c : Chan) (len period : Nat) : Prop := c.len ≤ len ∧ c.ftimer ≤ period

theorem pulsePeriod_le (f : BitVec 11) : pulsePeriod f ≤ 8192 := by unfold pulsePeriod; omega

theorem wavePeriod_le (f : BitVec 11) : wavePeriod f ≤ 4096 := by unfold wavePeriod; omega

theorem Noise.period_le (n : Noise) : n.period ≤ 112 * 2 ^ 15 := by
  have hdivisor : noiseDivisor n.divCode ≤ 112 := by
    have hcode := n.divCode.isLt
    unfold noiseDivisor
    split <;> omega
  have hshift : n.clkShift.toNat ≤ 15 := Nat.le_of_lt_succ n.clkShift.isLt
  rw [Noise.period, Nat.shiftLeft_eq]
  exact Nat.mul_le_mul hdivisor (Nat.pow_le_pow_right (by decide) hshift)

theorem Chan.Within.lengthTick {c : Chan} {len period : Nat} (h : c.Within len period) : c.lengthTick.Within len period := by
  unfold Chan.lengthTick
  split
  · exact ⟨Nat.le_trans (Nat.sub_le ..) h.1, h.2⟩
  · exact h

theorem Chan.Within.trigger {c : Chan} {len period p : Nat} (h : c.Within len period) (hp : p ≤ period) :
    (c.trigger len p).Within len period := by
  refine ⟨?_, hp⟩
  show (if c.len = 0 then len else c.len) ≤ len
  split
  · exact Nat.le_refl _
  · exact h.1

theorem Pulse.Within.cycle {p : Pulse} (h : p.ch.Within 64 8192) : p.cycle.ch.Within 64 8192 := by
  unfold Pulse.cycle
  split
  · exact ⟨h.1, pulsePeriod_le _⟩
  · exact ⟨h.1, Nat.le_trans (Nat.sub_le ..) h.2⟩

theorem WaveCh.Within.cycle {w : WaveCh} (h : w.ch.Within 256 4096) : w.cycle.ch.Within 256 4096 := by
  unfold WaveCh.cycle
  split
  · exact ⟨h.1, wavePeriod_le _⟩
  · exact ⟨h.1, Nat.le_trans (Nat.sub_le ..) h.2⟩

theorem Noise.Within.cycle {n : Noise} (h : n.ch.Within 64 (112 * 2 ^ 15)) : n.cycle.ch.Within 64 (112 * 2 ^ 15) := by
  unfold Noise.cycle
  split
  · exact ⟨h.1, n.period_le⟩
  · exact ⟨h.1, Nat.le_trans (Nat.sub_le ..) h.2⟩

/-! ### The sweep -/

theorem Sweep.reload_le (w : Sweep) : w.reload ≤ 8 := by
  have hpace := w.pace.isLt
  unfold Sweep.reload
  split <;> omega

/-- A sweep calculation touches neither the sweep's timer nor the channel's counters (R664). -/
theorem sweepApply_counters (w : Sweep) (p : Pulse) :
    (sweepApply w p).1.timer = w.timer ∧ (sweepApply w p).2.ch.len = p.ch.len
      ∧ (sweepApply w p).2.ch.ftimer = p.ch.ftimer := by
  unfold sweepApply
  split
  · exact ⟨rfl, rfl, rfl⟩
  split <;> exact ⟨rfl, rfl, rfl⟩

theorem sweepTick_within {w : Sweep} {p : Pulse} {len period : Nat} (hw : w.timer ≤ 8) (hp : p.ch.Within len period) :
    (sweepTick w p).1.timer ≤ 8 ∧ (sweepTick w p).2.ch.Within len period := by
  unfold sweepTick
  split
  · dsimp only
    split
    · obtain ⟨htimer, hlen, hftimer⟩ := sweepApply_counters { w with timer := w.reload } p
      rw [htimer, Chan.Within, hlen, hftimer]
      exact ⟨w.reload_le, hp⟩
    · exact ⟨w.reload_le, hp⟩
  · exact ⟨Nat.le_trans (Nat.sub_le ..) hw, hp⟩

/-! ### The audio processor -/

/-- The counters of the sequencer, the channels and the sweep are in their ranges (R621 to R624). -/
structure Apu.Bounded (a : Apu) : Prop where
  seq : a.seqClock < 8192
  ch1 : a.ch1.ch.Within 64 8192
  ch2 : a.ch2.ch.Within 64 8192
  ch3 : a.ch3.ch.Within 256 4096
  ch4 : a.ch4.ch.Within 64 (112 * 2 ^ 15)
  sweep : a.sweep.timer ≤ 8

/-- Every field the master disable clears is clear (R680). -/
def Apu.Cleared (a : Apu) : Prop :=
  a.ch1 = .zero ∧ a.sweep = .zero ∧ a.ch2 = .zero ∧ a.ch3 = .zero ∧ a.ch4 = .zero ∧ a.nr50 = 0 ∧ a.nr51 = 0

namespace Apu

variable {a : Apu}

theorem Bounded.lengthTicks (h : a.Bounded) : a.lengthTicks.Bounded :=
  ⟨h.seq, h.ch1.lengthTick, h.ch2.lengthTick, h.ch3.lengthTick, h.ch4.lengthTick, h.sweep⟩

theorem Bounded.sweepTicks (h : a.Bounded) : a.sweepTicks.Bounded := by
  obtain ⟨hsweep, hch1⟩ := sweepTick_within h.sweep h.ch1
  exact ⟨h.seq, hch1, h.ch2, h.ch3, h.ch4, hsweep⟩

theorem Bounded.envelopeTicks (h : a.Bounded) : a.envelopeTicks.Bounded :=
  ⟨h.seq, h.ch1, h.ch2, h.ch3, h.ch4, h.sweep⟩

theorem fireSequencer_of_off (ps : List (BitVec 3)) (p : BitVec 3) (h : a.on = false) : a.fireSequencer ps p = a :=
  if_neg (by rw [h]; decide)

theorem channelCycle_of_off (h : a.on = false) : a.channelCycle = a := if_neg (by rw [h]; decide)

/-- What each of the three ticks keeps, the sequencer keeps (R661). -/
theorem fireSequencer_keeps {P : Apu → Prop} (hlength : ∀ b : Apu, P b → P b.lengthTicks)
    (hsweep : ∀ b : Apu, P b → P b.sweepTicks) (henvelope : ∀ b : Apu, P b → P b.envelopeTicks)
    (ps : List (BitVec 3)) (p : BitVec 3) (h : P a) : P (a.fireSequencer ps p) := by
  have h1 : P (if ps.contains p then a.lengthTicks else a) := iteInduction (fun _ => hlength a h) fun _ => h
  have h2 : ∀ b : Apu, P b → P (if p = 2 ∨ p = 6 then b.sweepTicks else b) := fun b hb =>
    iteInduction (fun _ => hsweep b hb) fun _ => hb
  have h3 : ∀ b : Apu, P b → P (if p = 7 then b.envelopeTicks else b) := fun b hb =>
    iteInduction (fun _ => henvelope b hb) fun _ => hb
  exact iteInduction (fun _ => h3 _ (h2 _ h1)) fun _ => h

theorem Bounded.fireSequencer (ps : List (BitVec 3)) (p : BitVec 3) (h : a.Bounded) : (a.fireSequencer ps p).Bounded :=
  fireSequencer_keeps (P := Bounded) (fun _ => Bounded.lengthTicks) (fun _ => Bounded.sweepTicks)
    (fun _ => Bounded.envelopeTicks) ps p h

/-- The sequencer's clock starts again after 8192 cycles (R660). -/
theorem Bounded.sequencerCycle (ps : List (BitVec 3)) (h : a.Bounded) : (a.sequencerCycle ps).Bounded := by
  have hseq := h.seq
  unfold Apu.sequencerCycle
  split
  · have hfire := h.fireSequencer ps a.seqPhase
    exact ⟨Nat.zero_lt_succ _, hfire.ch1, hfire.ch2, hfire.ch3, hfire.ch4, hfire.sweep⟩
  · refine ⟨?_, h.ch1, h.ch2, h.ch3, h.ch4, h.sweep⟩
    show a.seqClock + 1 < 8192
    omega

theorem Bounded.channelCycle (h : a.Bounded) : a.channelCycle.Bounded := by
  unfold Apu.channelCycle
  split
  · exact ⟨h.seq, Pulse.Within.cycle h.ch1, Pulse.Within.cycle h.ch2, WaveCh.Within.cycle h.ch3, Noise.Within.cycle h.ch4,
      h.sweep⟩
  · exact h

theorem Bounded.cycle (ps : List (BitVec 3)) (h : a.Bounded) : (a.cycle ps).Bounded := (h.sequencerCycle ps).channelCycle

/-- What a cycle leaves alone: the enable, the two mixer registers and the output counter. -/
def fixed (a : Apu) : Bool × Byte × Byte × Nat := (a.on, a.nr50, a.nr51, a.sampleClock)

theorem fireSequencer_fixed (a : Apu) (ps : List (BitVec 3)) (p : BitVec 3) : (a.fireSequencer ps p).fixed = a.fixed :=
  fireSequencer_keeps (P := fun b => b.fixed = a.fixed) (fun _ => id) (fun _ => id) (fun _ => id) ps p rfl

theorem cycle_fixed (a : Apu) (ps : List (BitVec 3)) : (a.cycle ps).fixed = a.fixed := by
  have hseq : (a.sequencerCycle ps).fixed = a.fixed := by
    unfold Apu.sequencerCycle
    split
    · exact a.fireSequencer_fixed ps a.seqPhase
    · rfl
  rw [← hseq]
  unfold Apu.cycle Apu.channelCycle
  split <;> rfl

theorem cycle_on (a : Apu) (ps : List (BitVec 3)) : (a.cycle ps).on = a.on := congrArg Prod.fst (a.cycle_fixed ps)

theorem cycle_sampleClock (a : Apu) (ps : List (BitVec 3)) : (a.cycle ps).sampleClock = a.sampleClock :=
  congrArg (fun x => x.2.2.2) (a.cycle_fixed ps)

/-- A switched-off audio processor counts its sequencer and does nothing else (R652, R661). -/
theorem cycle_of_off (ps : List (BitVec 3)) (h : a.on = false) :
    ∃ clock phase, a.cycle ps = { a with seqClock := clock, seqPhase := phase } := by
  have hseq : ∃ clock phase, a.sequencerCycle ps = { a with seqClock := clock, seqPhase := phase } := by
    unfold Apu.sequencerCycle
    rw [fireSequencer_of_off ps _ h]
    split
    · exact ⟨_, _, rfl⟩
    · exact ⟨_, a.seqPhase, rfl⟩
  obtain ⟨clock, phase, he⟩ := hseq
  refine ⟨clock, phase, ?_⟩
  unfold Apu.cycle
  rw [he]
  exact channelCycle_of_off h

/-! ### The ports -/

theorem powerOff_bounded (h : a.Bounded) : a.powerOff.Bounded where
  seq := h.seq
  ch1 := ⟨Nat.zero_le _, Nat.zero_le _⟩
  ch2 := ⟨Nat.zero_le _, Nat.zero_le _⟩
  ch3 := ⟨Nat.zero_le _, Nat.zero_le _⟩
  ch4 := ⟨Nat.zero_le _, Nat.zero_le _⟩
  sweep := Nat.zero_le _

theorem writeNr52_off {v : Byte} (hon : a.on = true) (hv : v.getLsbD 7 = false) : a.writeNr52 v = a.powerOff :=
  if_pos (by rw [hon, hv]; rfl)

theorem writeNr52_on {v : Byte} (hoff : a.on = false) (hv : v.getLsbD 7 = true) : a.writeNr52 v = { a with on := true } := by
  unfold Apu.writeNr52
  rw [hoff, hv]
  rfl

theorem writeNr52_keep {v : Byte} (h : a.on = v.getLsbD 7) : a.writeNr52 v = a := by
  unfold Apu.writeNr52
  rw [h, Bool.and_not_self, Bool.not_and_self]
  rfl

theorem writeNr_nr52 (a : Apu) (v : Byte) : a.writeNr .nr52 v = a.writeNr52 v := if_pos rfl

theorem writeNr_of_off {r : NrReg} (v : Byte) (hr : r ≠ .nr52) (h : a.on = false) : a.writeNr r v = a :=
  (if_neg hr).trans (if_neg (by rw [h]; decide))

theorem writeNr_of_on {r : NrReg} (v : Byte) (hr : r ≠ .nr52) (h : a.on = true) :
    a.writeNr r v = a.writeNrOn r v := (if_neg hr).trans (if_pos h)

theorem Bounded.trigger1 (h : a.Bounded) : a.trigger1.Bounded := by
  have hch1 : a.ch1.trigger.ch.Within 64 8192 := h.ch1.trigger (pulsePeriod_le _)
  exact ⟨h.seq, hch1, h.ch2, h.ch3, h.ch4, Sweep.reload_le _⟩

/-- A port other than `NR52` keeps the ranges and the enable (R630 to R649). -/
theorem Bounded.writeNrOn {r : NrReg} (v : Byte) (hr : r ≠ .nr52) (h : a.Bounded) :
    (a.writeNrOn r v).Bounded ∧ (a.writeNrOn r v).on = a.on := by
  cases r with
  | nr11 => exact ⟨{ h with ch1 := ⟨Nat.sub_le .., h.ch1.2⟩ }, rfl⟩
  | nr21 => exact ⟨{ h with ch2 := ⟨Nat.sub_le .., h.ch2.2⟩ }, rfl⟩
  | nr31 => exact ⟨{ h with ch3 := ⟨Nat.sub_le .., h.ch3.2⟩ }, rfl⟩
  | nr41 => exact ⟨{ h with ch4 := ⟨Nat.sub_le .., h.ch4.2⟩ }, rfl⟩
  | nr14 =>
    have hcontrol : Apu.Bounded { a with ch1 := a.ch1.writeControl v } := { h with }
    unfold Apu.writeNrOn
    dsimp only
    split
    · exact ⟨hcontrol.trigger1, rfl⟩
    · exact ⟨hcontrol, rfl⟩
  | nr24 =>
    unfold Apu.writeNrOn
    dsimp only
    split
    · exact ⟨{ h with ch2 := Chan.Within.trigger (c := (a.ch2.writeControl v).ch) h.ch2 (pulsePeriod_le _) }, rfl⟩
    · exact ⟨{ h with }, rfl⟩
  | nr34 =>
    unfold Apu.writeNrOn
    dsimp only
    split
    · exact ⟨{ h with ch3 := Chan.Within.trigger (c := (a.ch3.writeControl v).ch) h.ch3 (wavePeriod_le _) }, rfl⟩
    · exact ⟨{ h with }, rfl⟩
  | nr44 =>
    unfold Apu.writeNrOn
    dsimp only
    split
    · exact ⟨{ h with ch4 :=
        Chan.Within.trigger (c := { a.ch4.ch with lenEn := v.getLsbD 6 }) h.ch4 (Noise.period_le a.ch4) }, rfl⟩
    · exact ⟨{ h with }, rfl⟩
  | nr52 => exact absurd rfl hr
  | _ => exact ⟨{ h with }, rfl⟩

theorem writeNr_sampleClock (a : Apu) (r : NrReg) (v : Byte) : (a.writeNr r v).sampleClock = a.sampleClock := by
  have h52 : (a.writeNr52 v).sampleClock = a.sampleClock := by
    unfold Apu.writeNr52
    split
    · rfl
    split <;> rfl
  unfold Apu.writeNr
  split
  · exact h52
  split
  · cases r with
    | nr14 => unfold Apu.writeNrOn; dsimp only; split <;> rfl
    | nr52 => exact h52
    | _ => rfl
  · rfl

end Apu

/-! ### The pixel processor leaves the audio processor -/

theorem ppuBlind_apu : PpuBlind State.apu := ⟨fun _ _ => rfl, fun _ => rfl, fun _ => rfl, fun _ _ => rfl⟩

theorem State.writeLcdc_apu (s : State) (v : Byte) : (s.writeLcdc v).apu = s.apu := by
  unfold State.writeLcdc
  dsimp only
  split
  · rfl
  split
  · exact ppuBlind_apu.evalStat _
  · rfl

/-! ### A step -/

theorem State.apuCycle_eq (s : State) :
    s.apuCycle
      = { s with
          apu := { s.apu.cycle s.par.lengthPhases with
            sampleClock := if s.apu.sampleClock ≤ 1 then s.par.samplePeriodPred + 1 else s.apu.sampleClock - 1 }
          host := { s.host with
            samples := if s.apu.sampleClock ≤ 1 then
                s.host.samples ++ [(s.apu.cycle s.par.lengthPhases).mix s.par.audioMax]
              else s.host.samples } } := by
  have hdue : s.apu.sampleClock - 1 = 0 ↔ s.apu.sampleClock ≤ 1 := by omega
  unfold State.apuCycle
  dsimp only
  simp only [s.apu.cycle_sampleClock, hdue]

/-- The audio part of the invariant, by the counters, the output counter and the switched-off rest. -/
theorem apuInv_iff (s : State) :
    ApuInv s ↔ s.apu.Bounded ∧ (1 ≤ s.apu.sampleClock ∧ s.apu.sampleClock ≤ s.par.samplePeriodPred + 1)
      ∧ (s.apu.on = false → s.apu.Cleared) :=
  ⟨fun h => ⟨⟨h.seqClock, ⟨h.len1, h.ftimer1⟩, ⟨h.len2, h.ftimer2⟩, ⟨h.len3, h.ftimer3⟩, ⟨h.len4, h.ftimer4⟩, h.sweepTimer⟩,
      ⟨h.sampleLow, h.sampleHigh⟩, h.off⟩,
    fun ⟨hb, ⟨hlow, hhigh⟩, hoff⟩ => ⟨hb.seq, hlow, hhigh, hb.ch1.1, hb.ch2.1, hb.ch3.1, hb.ch4.1, hb.ch1.2, hb.ch2.2, hb.ch3.2,
      hb.ch4.2, hb.sweep, hoff⟩⟩

namespace ApuInv

variable {s t : State}

theorem of_eq (h : ApuInv s) (ha : t.apu = s.apu) (hp : t.par = s.par) : ApuInv t := by
  rw [apuInv_iff] at h ⊢
  rw [ha, hp]
  exact h

/-- A port of the audio processor keeps the invariant: while it is off only the enable itself is written (R652). -/
theorem writeNr (r : NrReg) (v : Byte) (h : ApuInv s) : ApuInv { s with apu := s.apu.writeNr r v } := by
  obtain ⟨hb, hsample, hoff⟩ := (apuInv_iff s).1 h
  have hsample' : (s.apu.writeNr r v).sampleClock = s.apu.sampleClock := s.apu.writeNr_sampleClock r v
  refine (apuInv_iff _).2 ?_
  dsimp only
  rw [hsample']
  by_cases hr : r = .nr52
  · rw [hr, Apu.writeNr_nr52]
    by_cases hkeep : s.apu.on = v.getLsbD 7
    · rw [Apu.writeNr52_keep hkeep]
      exact ⟨hb, hsample, hoff⟩
    cases hv : v.getLsbD 7 with
    | true =>
      rw [hv, Bool.not_eq_true] at hkeep
      rw [Apu.writeNr52_on hkeep hv]
      exact ⟨{ hb with }, hsample, nofun⟩
    | false =>
      rw [hv, Bool.not_eq_false] at hkeep
      rw [Apu.writeNr52_off hkeep hv]
      exact ⟨Apu.powerOff_bounded hb, hsample, fun _ => ⟨rfl, rfl, rfl, rfl, rfl, rfl, rfl⟩⟩
  · cases hon : s.apu.on with
    | true =>
      obtain ⟨hb', hon'⟩ := hb.writeNrOn v hr
      rw [Apu.writeNr_of_on v hr hon]
      exact ⟨hb', hsample, fun hc => nomatch hon.symm.trans (hon'.symm.trans hc)⟩
    | false =>
      rw [Apu.writeNr_of_off v hr hon]
      exact ⟨hb, hsample, fun _ => hoff hon⟩

theorem ioWrite (r : IoReg) (v : Byte) (h : ApuInv s) : ApuInv (s.ioWrite r v) := by
  have hpar := s.ioWrite_par r v
  cases r with
  | nr r => exact h.writeNr r v
  | wave i =>
    obtain ⟨hb, hsample, hoff⟩ := (apuInv_iff s).1 h
    exact (apuInv_iff _).2 ⟨{ hb with }, hsample, hoff⟩
  | lcdc => exact h.of_eq (s.writeLcdc_apu v) hpar
  | stat | lyc => exact h.of_eq (ppuBlind_apu.evalStat { s with ppu := _ }) hpar
  | dma => exact h.of_eq (s.dmaWrite_samePpuApu v).apu hpar
  | boot => exact h.of_eq (by unfold State.ioWrite; dsimp only; split <;> rfl) hpar
  | _ => exact h.of_eq rfl rfl

theorem write8 (a : Word) (v : Byte) (h : ApuInv s) : ApuInv (s.write8 a v) := by
  rcases s.write8_cases a v with he | ⟨r, he⟩
  · exact h.of_eq he.apu (s.write8_par a v)
  · rw [he]
    exact h.ioWrite r v

/-- One cycle: the output counter starts again at its period (R690). -/
theorem apuCycle (h : ApuInv s) : ApuInv s.apuCycle := by
  obtain ⟨hb, ⟨hlow, hhigh⟩, hoff⟩ := (apuInv_iff s).1 h
  have hcycle := hb.cycle s.par.lengthPhases
  rw [s.apuCycle_eq, apuInv_iff]
  refine ⟨{ hcycle with }, ?_, fun hc => ?_⟩
  · dsimp only
    split <;> omega
  · have hon : s.apu.on = false := (s.apu.cycle_on _).symm.trans hc
    obtain ⟨clock, phase, he⟩ := Apu.cycle_of_off s.par.lengthPhases hon
    dsimp only
    rw [he]
    exact hoff hon

theorem apuAdvance : ∀ (n : Nat) {s : State}, ApuInv s → ApuInv (s.apuAdvance n)
  | 0, _, h => h
  | n + 1, _, h => apuAdvance n h.apuCycle

theorem stepClosed : StepClosed ApuInv where
  exec :=
    { regs := fun _ h => h.of_eq rfl rfl
      cost := fun _ h => h.of_eq rfl rfl
      touch := fun a h => h.of_eq (State.touch8_apu _ a) (State.touch8_par _ a)
      write := fun a v h => h.write8 a v
      ime := fun _ h => h.of_eq rfl rfl
      ei := fun _ h => h.of_eq rfl rfl
      bug := fun h => h.of_eq rfl rfl
      fault := fun _ h => h.of_eq rfl rfl }
  wait _ h := h.of_eq rfl rfl
  noBug h := h.of_eq rfl rfl
  iflag _ h := h.of_eq rfl rfl
  unstall h := h.of_eq rfl rfl
  host {s} h := h.of_eq s.hostPhase_samePpuApu.apu (State.applyCalls_reach s.host.calls s).sameImages.par
  timer n h := h.of_eq (State.timerAdvance_samePpuApu _ n).apu (congrArg Storage.par (State.timerAdvance_storage _ n))
  ppu n h := h.of_eq (ppuBlind_apu.ppuAdvance n _) (congrArg Storage.par (ppuBlind_storage.ppuAdvance n _))
  apu n h := apuAdvance n h

end ApuInv

/-- Settles O44: the audio ports and the cycles are the only parts of a step that reach the audio processor, and each keeps the
ranges and the rest of a switched-off one. -/
theorem stepKeepsAudio : Obligations.StepKeepsAudio := fun _ _ h ht => step_closed ApuInv.stepClosed h ht

end Sys2Proof.Machine

/-!
SUPPORT. The ports of the audio processor: the master enable, the fields each register reads and stores, the triggers and the
wave table.
-/
namespace Sys2Proof.Machine

/-! ### The master enable -/

theorem State.write8_nr (s : State) {a : Word} {r : NrReg} (v : Byte) (h : MapsTo a (.nr r)) :
    s.write8 a v = { s with apu := s.apu.writeNr r v } := s.write8_of_mapsTo v h

/-- `NR52` reads the enable, three ones and the four `active` bits (R650). -/
theorem Apu.readNr52_eq (a : Apu) :
    a.readNr .nr52
      = (if a.on then 0x80 else 0x00) ||| 0x70
        ||| (if a.ch4.ch.enabled ∧ a.ch4.ch.dac then 0x08 else 0x00)
        ||| (if a.ch3.ch.enabled ∧ a.ch3.ch.dac then 0x04 else 0x00)
        ||| (if a.ch2.ch.enabled ∧ a.ch2.ch.dac then 0x02 else 0x00)
        ||| (if a.ch1.ch.enabled ∧ a.ch1.ch.dac then 0x01 else 0x00) := by
  have hbits : ∀ on b4 b3 b2 b1 : Bool,
      (BitVec.ofBool on ++ 0b111#3 ++ BitVec.ofBool b4 ++ BitVec.ofBool b3 ++ BitVec.ofBool b2 ++ BitVec.ofBool b1 : Byte)
        = (if on = true then 0x80 else 0x00) ||| 0x70 ||| (if b4 = true then 0x08 else 0x00)
          ||| (if b3 = true then 0x04 else 0x00) ||| (if b2 = true then 0x02 else 0x00)
          ||| (if b1 = true then 0x01 else 0x00) := by decide
  refine (hbits _ _ _ _ _).trans ?_
  simp only [Chan.audible, Bool.and_eq_true]

/-- The ports that only the set enable opens (R652). -/
def IoReg.isChannelPort : IoReg → Bool
  | .nr r => r != .nr52
  | _ => false

theorem ioTableLow_channelPort :
    ∀ e ∈ ioTableLow, 0x10 ≤ e.1 → e.1 ≤ 0x25 → e.2.isChannelPort = true := by decide

theorem loByte_toNat_of_io {a : Word} (hlo : 0xFF00 ≤ a.toNat) : (loByte a).toNat = a.toNat - 0xFF00 := by
  have ha := a.isLt
  simp only [loByte, BitVec.extractLsb'_toNat, Nat.shiftRight_zero]
  omega

/-- The addresses 0xFF10 to 0xFF25 hold such ports or nothing. -/
theorem ioRegAt_channelPort {a : Word} {r : IoReg} (hlo : 0xFF10 ≤ a.toNat) (hhi : a.toNat ≤ 0xFF25)
    (h : ioRegAt a = some r) : r.isChannelPort = true := by
  have hk := loByte_toNat_of_io (a := a) (by omega)
  unfold ioRegAt at h
  dsimp only at h
  rw [hk, if_neg (by omega), if_pos (by omega)] at h
  exact ioTableLow_channelPort _ (mem_of_lookup_eq_some h) (by dsimp only; omega) (by dsimp only; omega)

theorem State.ioWrite_channelPort_off {s : State} {r : IoReg} (v : Byte) (hr : r.isChannelPort = true)
    (h : s.apu.on = false) : s.ioWrite r v = s := by
  cases r with
  | nr r =>
    have hr' : r ≠ .nr52 := bne_iff_ne.1 hr
    exact congrArg (fun a : Apu => { s with apu := a }) (Apu.writeNr_of_off v hr' h)
  | _ => cases hr

theorem State.write8_channelPort_off {s : State} {a : Word} (v : Byte) (hlo : 0xFF10 ≤ a.toNat) (hhi : a.toNat ≤ 0xFF25)
    (h : s.apu.on = false) : s.write8 a v = s := by
  unfold State.write8
  rw [s.window_of_io (by omega) (by omega)]
  dsimp only
  split
  next r hr => exact State.ioWrite_channelPort_off v (ioRegAt_channelPort hlo hhi hr) h
  next => rfl

/-- The enable and the channels with their fields. -/
def Apu.channels (a : Apu) : Bool × Pulse × Sweep × Pulse × WaveCh × Noise := (a.on, a.ch1, a.sweep, a.ch2, a.ch3, a.ch4)

theorem State.apuCycle_channels_of_off {s : State} (h : s.apu.on = false) : s.apuCycle.apu.channels = s.apu.channels := by
  obtain ⟨clock, phase, he⟩ := Apu.cycle_of_off s.par.lengthPhases h
  show Apu.channels { s.apu.cycle s.par.lengthPhases with sampleClock := _ } = _
  rw [he]
  rfl

theorem State.apuAdvance_channels_of_off : ∀ (n : Nat) {s : State}, s.apu.on = false →
    (s.apuAdvance n).apu.channels = s.apu.channels
  | 0, _, _ => rfl
  | n + 1, s, h => by
    have hcycle := State.apuCycle_channels_of_off h
    have hoff : s.apuCycle.apu.on = false := (congrArg Prod.fst hcycle).trans h
    exact (State.apuAdvance_channels_of_off n hoff).trans hcycle

/-- Settles O57: the three writes of the enable, the bits of `NR52`, and the ports, the cycles and the mixer while it is off. -/
theorem audioMasterEnable : Obligations.AudioMasterEnable := by
  intro s v
  have hport : MapsTo 0xFF26 (.nr .nr52) := by decide
  have hwrite : s.write8 0xFF26 v = { s with apu := s.apu.writeNr52 v } := by
    rw [s.write8_nr v hport, Apu.writeNr_nr52]
  refine ⟨fun hon hv => ?_, fun hoff hv => ?_, fun hkeep => ?_, (s.read8_of_mapsTo hport).trans s.apu.readNr52_eq,
    fun a hlo hhi hoff => State.write8_channelPort_off v hlo hhi hoff,
    fun hoff => ⟨fun m => if_neg (by rw [hoff]; decide), fun n => ?_⟩⟩
  · rw [hwrite, Apu.writeNr52_off hon hv]
    rfl
  · rw [hwrite, Apu.writeNr52_on hoff hv]
  · rw [hwrite, Apu.writeNr52_keep hkeep]
  · have hkept := State.apuAdvance_channels_of_off n hoff
    simp only [Apu.channels, Prod.mk.injEq] at hkept
    obtain ⟨hon, h1, hsweep, h2, h3, h4⟩ := hkept
    exact ⟨h1, hsweep, h2, h3, h4, hon.trans hoff⟩

/-! ### What the registers read -/

/-- A register of four bits, a flag and three bits. -/
theorem fields_4_1_3 : ∀ (a : BitVec 4) (b : Bool) (c : BitVec 3), (a ++ BitVec.ofBool b ++ c : Byte)
    = (a.setWidth 8 <<< 4) ||| (if b then 0x08 else 0) ||| c.setWidth 8 := by decide

theorem sweepByte_eq : ∀ (a : BitVec 3) (b : Bool) (c : BitVec 3), (1#1 ++ a ++ BitVec.ofBool b ++ c : Byte)
    = 0x80 ||| (a.setWidth 8 <<< 4) ||| (if b then 0x08 else 0) ||| c.setWidth 8 := by decide

theorem dutyByte_eq : ∀ d : BitVec 2, (d ++ 0b111111#6 : Byte) = 0x3F ||| (d.setWidth 8 <<< 6) := by decide

theorem levelByte_eq : ∀ l : BitVec 2, (1#1 ++ l ++ 0b11111#5 : Byte) = 0x9F ||| (l.setWidth 8 <<< 5) := by decide

theorem dacByte_eq : ∀ b : Bool, (BitVec.ofBool b ++ 0b1111111#7 : Byte) = 0x7F ||| (if b then 0x80 else 0) := by decide

theorem readLenEn_eq (c : Chan) : readLenEn c = 0xBF ||| (if c.lenEn then 0x40 else 0) := by
  unfold readLenEn
  cases c.lenEn <;> rfl

/-! ### What a write stores -/

theorem dacOf_eq : ∀ v : Byte, dacOf v = decide (8 ≤ v.toNat) := by decide

theorem toNat_low6 (v : Byte) : (v.extractLsb' 0 6).toNat = v.toNat % 64 := by
  rw [BitVec.extractLsb'_toNat, Nat.shiftRight_zero]

theorem toNat_append_eq {m n : Nat} (x : BitVec m) (y : BitVec n) : (x ++ y).toNat = x.toNat * 2 ^ n + y.toNat := by
  rw [BitVec.toNat_append, ← Nat.shiftLeft_add_eq_or_of_lt y.isLt, Nat.shiftLeft_eq]

theorem freqLow_eq (f : BitVec 11) (v : Byte) : freqLow f v = BitVec.ofNat 11 (f.toNat / 256 * 256 + v.toNat) := by
  have hf := f.isLt
  have hv := v.isLt
  apply BitVec.eq_of_toNat_eq
  unfold freqLow
  rw [toNat_append_eq, BitVec.extractLsb'_toNat, Nat.shiftRight_eq_div_pow, BitVec.toNat_ofNat]
  omega

theorem freqHigh_eq (f : BitVec 11) (v : Byte) :
    freqHigh f v = BitVec.ofNat 11 ((v.toNat % 8) * 256 + f.toNat % 256) := by
  apply BitVec.eq_of_toNat_eq
  unfold freqHigh
  rw [toNat_append_eq, BitVec.extractLsb'_toNat, BitVec.extractLsb'_toNat, Nat.shiftRight_zero, Nat.shiftRight_zero,
    BitVec.toNat_ofNat]
  omega

theorem Noise.period_eq (n : Noise) :
    n.period = (if n.divCode = 0 then 8 else 16 * n.divCode.toNat) * 2 ^ n.clkShift.toNat := Nat.shiftLeft_eq _ _

theorem Sweep.calc_eq (w : Sweep) :
    w.calc = if w.dir then w.shadow.toNat - w.shadow.toNat / 2 ^ w.step.toNat
      else w.shadow.toNat + w.shadow.toNat / 2 ^ w.step.toNat := by
  unfold Sweep.calc
  rw [Nat.shiftRight_eq_div_pow]

/-- The overflow check of a trigger: only an increasing sweep can exceed the range (R670). -/
theorem Sweep.exceeds_iff (w : Sweep) :
    (decide (w.step ≠ 0) && decide (w.calc > 2047))
      = decide (w.step ≠ 0 ∧ w.dir = false ∧ w.shadow.toNat + w.shadow.toNat / 2 ^ w.step.toNat > 2047) := by
  have hshadow := w.shadow.isLt
  have hdown : w.shadow.toNat - w.shadow.toNat / 2 ^ w.step.toNat ≤ w.shadow.toNat := Nat.sub_le _ _
  rw [w.calc_eq, ← Bool.decide_and]
  cases w.dir with
  | false => simp
  | true =>
    simp only [if_true]
    rw [decide_eq_decide]
    constructor
    · rintro ⟨-, h⟩
      omega
    · rintro ⟨-, h, -⟩
      cases h

section

variable {s : State} {a : Word} {r : NrReg} {v : Byte}

theorem State.write8_nr_on (h : MapsTo a (.nr r)) (hr : r ≠ .nr52) (hon : s.apu.on = true) :
    s.write8 a v = { s with apu := s.apu.writeNrOn r v } := by
  rw [s.write8_nr v h, Apu.writeNr_of_on v hr hon]

/-- A write of `NRx4` with bit 7 clear stores its fields, with bit 7 set it is a trigger too. -/
theorem Apu.writeNr14_plain (b : Apu) (hv : v.getLsbD 7 = false) :
    b.writeNrOn .nr14 v = { b with ch1 := b.ch1.writeControl v } := if_neg (by rw [hv]; decide)

theorem Apu.writeNr14_trigger (b : Apu) (hv : v.getLsbD 7 = true) :
    b.writeNrOn .nr14 v = { b with ch1 := b.ch1.writeControl v }.trigger1 := if_pos hv

theorem Apu.writeNr24_plain (b : Apu) (hv : v.getLsbD 7 = false) :
    b.writeNrOn .nr24 v = { b with ch2 := b.ch2.writeControl v } :=
  congrArg (fun p => { b with ch2 := p }) (if_neg (by rw [hv]; decide))

theorem Apu.writeNr24_trigger (b : Apu) (hv : v.getLsbD 7 = true) :
    b.writeNrOn .nr24 v = { b with ch2 := (b.ch2.writeControl v).trigger } :=
  congrArg (fun p => { b with ch2 := p }) (if_pos hv)

theorem Apu.writeNr34_plain (b : Apu) (hv : v.getLsbD 7 = false) :
    b.writeNrOn .nr34 v = { b with ch3 := b.ch3.writeControl v } :=
  congrArg (fun w => { b with ch3 := w }) (if_neg (by rw [hv]; decide))

theorem Apu.writeNr34_trigger (b : Apu) (hv : v.getLsbD 7 = true) :
    b.writeNrOn .nr34 v = { b with ch3 := (b.ch3.writeControl v).trigger } :=
  congrArg (fun w => { b with ch3 := w }) (if_pos hv)

theorem Apu.writeNr44_plain (b : Apu) (hv : v.getLsbD 7 = false) :
    b.writeNrOn .nr44 v = { b with ch4 := { b.ch4 with ch := { b.ch4.ch with lenEn := v.getLsbD 6 } } } :=
  congrArg (fun n => { b with ch4 := n }) (if_neg (by rw [hv]; decide))

theorem Apu.writeNr44_trigger (b : Apu) (hv : v.getLsbD 7 = true) :
    b.writeNrOn .nr44 v = { b with ch4 := Noise.trigger { b.ch4 with ch := { b.ch4.ch with lenEn := v.getLsbD 6 } } } :=
  congrArg (fun n => { b with ch4 := n }) (if_pos hv)

end

/-- Channel 1's trigger, its overflow check by the sweep's new shadow (R670). -/
theorem Apu.trigger1_eq (a : Apu) :
    a.trigger1
      = { a with
          sweep := a.sweep.trigger a.ch1.freq
          ch1 := { a.ch1.trigger with ch := { a.ch1.trigger.ch with
            enabled := !decide (a.sweep.step ≠ 0 ∧ a.sweep.dir = false
              ∧ a.ch1.freq.toNat + a.ch1.freq.toNat / 2 ^ a.sweep.step.toNat > 2047) } } } := by
  unfold Apu.trigger1
  dsimp only
  rw [(a.sweep.trigger a.ch1.freq).exceeds_iff]
  rfl

/-! ### The wave table -/

theorem mapsTo_wave {a : Word} (hlo : 0xFF30 ≤ a.toNat) (hhi : a.toNat < 0xFF40) : MapsTo a (.wave (a.toNat - 0xFF30)) := by
  have hk := loByte_toNat_of_io (a := a) (by omega)
  refine ⟨by omega, ?_⟩
  unfold ioRegAt
  dsimp only
  rw [hk, if_pos (by omega)]
  exact congrArg (fun i => some (IoReg.wave i)) (by omega)

/-! ### The addresses of the registers -/

/-- The address of an audio register (spec/10_state.md R46). -/
def NrReg.address : NrReg → Word
  | .nr10 => 0xFF10 | .nr11 => 0xFF11 | .nr12 => 0xFF12 | .nr13 => 0xFF13 | .nr14 => 0xFF14
  | .nr21 => 0xFF16 | .nr22 => 0xFF17 | .nr23 => 0xFF18 | .nr24 => 0xFF19
  | .nr30 => 0xFF1A | .nr31 => 0xFF1B | .nr32 => 0xFF1C | .nr33 => 0xFF1D | .nr34 => 0xFF1E
  | .nr41 => 0xFF20 | .nr42 => 0xFF21 | .nr43 => 0xFF22 | .nr44 => 0xFF23
  | .nr50 => 0xFF24 | .nr51 => 0xFF25 | .nr52 => 0xFF26

theorem mapsTo_address (r : NrReg) : MapsTo r.address (.nr r) := by cases r <;> decide

theorem State.read8_address (s : State) (r : NrReg) : s.read8 r.address = s.apu.readNr r :=
  s.read8_of_mapsTo (mapsTo_address r)

theorem State.write8_address {s : State} (v : Byte) (hon : s.apu.on = true) (r : NrReg) (hr : r ≠ .nr52) :
    s.write8 r.address v = { s with apu := s.apu.writeNrOn r v } := State.write8_nr_on (mapsTo_address r) hr hon

/-! ### The fields by number -/

theorem Pulse.writeDuty_eq (p : Pulse) (v : Byte) :
    p.writeDuty v = { p with duty := v.extractLsb' 6 2, ch := { p.ch with len := 64 - v.toNat % 64 } } := by
  unfold Pulse.writeDuty
  rw [toNat_low6]

theorem Pulse.writeEnv_eq (p : Pulse) (v : Byte) :
    p.writeEnv v = { p with env := p.env.writeByte v, ch := { p.ch with dac := decide (8 ≤ v.toNat) } } := by
  unfold Pulse.writeEnv
  rw [dacOf_eq]

theorem Pulse.writeControl_eq (p : Pulse) (v : Byte) :
    p.writeControl v
      = { p with
          freq := BitVec.ofNat 11 ((v.toNat % 8) * 256 + p.freq.toNat % 256), ch := { p.ch with lenEn := v.getLsbD 6 } } := by
  unfold Pulse.writeControl
  rw [freqHigh_eq]

theorem WaveCh.writeControl_eq (w : WaveCh) (v : Byte) :
    w.writeControl v
      = { w with
          freq := BitVec.ofNat 11 ((v.toNat % 8) * 256 + w.freq.toNat % 256), ch := { w.ch with lenEn := v.getLsbD 6 } } := by
  unfold WaveCh.writeControl
  rw [freqHigh_eq]

theorem Sweep.trigger_eq (w : Sweep) (f : BitVec 11) :
    w.trigger f
      = { w with
          shadow := f, timer := if w.pace = 0 then 8 else w.pace.toNat, enable := decide (w.pace ≠ 0 ∨ w.step ≠ 0) } := by
  unfold Sweep.trigger
  rw [← Bool.decide_or]
  rfl

/-- Settles O58, register by register; the triggers by their parts. -/
theorem channelTriggers : Obligations.ChannelTriggers := by
  refine ⟨fun s => ?_, fun s v hon => ?_, fun s v hon hv => ?_, fun s a b v halo hahi hblo hbhi => ?_⟩
  · intro a bit envelope
    have hread := s.read8_address
    have henvelope : ∀ e : Env, e.readByte = envelope e := fun e => fields_4_1_3 e.init e.dir e.period
    exact ⟨(hread .nr10).trans (sweepByte_eq _ _ _), (hread .nr11).trans (dutyByte_eq _), (hread .nr21).trans (dutyByte_eq _),
      (hread .nr12).trans (henvelope _), (hread .nr22).trans (henvelope _), (hread .nr42).trans (henvelope _),
      hread .nr13, hread .nr23, hread .nr31, hread .nr33, hread .nr41,
      (hread .nr14).trans (readLenEn_eq _), (hread .nr24).trans (readLenEn_eq _), (hread .nr34).trans (readLenEn_eq _),
      (hread .nr44).trans (readLenEn_eq _), (hread .nr30).trans (dacByte_eq _), (hread .nr32).trans (levelByte_eq _),
      (hread .nr43).trans (fields_4_1_3 _ _ _), hread .nr50, hread .nr51⟩
  · intro a put envelope dac len low high lenEn
    have hw := State.write8_address v hon
    have hlen : (v.extractLsb' 0 6).toNat = v.toNat % 64 := toNat_low6 v
    refine ⟨hw .nr10 (by decide), ?_, ?_, ?_, ?_, ?_, ?_, ?_, ?_, hw .nr30 (by decide), hw .nr31 (by decide),
      hw .nr32 (by decide), ?_, hw .nr43 (by decide), hw .nr50 (by decide), hw .nr51 (by decide),
      fun hv => ⟨?_, ?_, ?_, ?_⟩⟩
    · exact (hw .nr11 (by decide)).trans (congrArg (fun p => put { a with ch1 := p }) (a.ch1.writeDuty_eq v))
    · exact (hw .nr21 (by decide)).trans (congrArg (fun p => put { a with ch2 := p }) (a.ch2.writeDuty_eq v))
    · exact (hw .nr12 (by decide)).trans (congrArg (fun p => put { a with ch1 := p }) (a.ch1.writeEnv_eq v))
    · exact (hw .nr22 (by decide)).trans (congrArg (fun p => put { a with ch2 := p }) (a.ch2.writeEnv_eq v))
    · exact (hw .nr42 (by decide)).trans (congrArg
        (fun d => put { a with ch4 := { a.ch4 with env := envelope a.ch4.env, ch := { a.ch4.ch with dac := d } } }) (dacOf_eq v))
    · exact (hw .nr13 (by decide)).trans (congrArg (fun f => put { a with ch1 := { a.ch1 with freq := f } }) (freqLow_eq _ v))
    · exact (hw .nr23 (by decide)).trans (congrArg (fun f => put { a with ch2 := { a.ch2 with freq := f } }) (freqLow_eq _ v))
    · exact (hw .nr33 (by decide)).trans (congrArg (fun f => put { a with ch3 := { a.ch3 with freq := f } }) (freqLow_eq _ v))
    · exact (hw .nr41 (by decide)).trans (congrArg (fun n => put { a with ch4 := { a.ch4 with ch := len a.ch4.ch (64 - n) } }) hlen)
    · exact (hw .nr14 (by decide)).trans (congrArg put ((a.writeNr14_plain hv).trans
        (congrArg (fun p => { a with ch1 := p }) (a.ch1.writeControl_eq v))))
    · exact (hw .nr24 (by decide)).trans (congrArg put ((a.writeNr24_plain hv).trans
        (congrArg (fun p => { a with ch2 := p }) (a.ch2.writeControl_eq v))))
    · exact (hw .nr34 (by decide)).trans (congrArg put ((a.writeNr34_plain hv).trans
        (congrArg (fun w => { a with ch3 := w }) (a.ch3.writeControl_eq v))))
    · exact (hw .nr44 (by decide)).trans (congrArg put (a.writeNr44_plain hv))
  · intro freq chan env a f1 exceeds
    have hw := State.write8_address v hon
    have h1 : a.ch1.writeControl v = { a.ch1 with freq := f1, ch := { a.ch1.ch with lenEn := v.getLsbD 6 } } :=
      a.ch1.writeControl_eq v
    have h2 := a.ch2.writeControl_eq v
    have h3 := a.ch3.writeControl_eq v
    refine ⟨?_, ?_, ?_, ?_⟩
    · refine (hw .nr14 (by decide)).trans (congrArg (fun b : Apu => { s with apu := b }) ?_)
      rw [Apu.writeNr14_trigger _ hv, h1, Apu.trigger1_eq, Sweep.trigger_eq]
      rfl
    · refine (hw .nr24 (by decide)).trans (congrArg (fun b : Apu => { s with apu := b }) ?_)
      rw [Apu.writeNr24_trigger _ hv, h2]
      rfl
    · refine (hw .nr34 (by decide)).trans (congrArg (fun b : Apu => { s with apu := b }) ?_)
      rw [Apu.writeNr34_trigger _ hv, h3]
      rfl
    · refine (hw .nr44 (by decide)).trans (congrArg (fun b : Apu => { s with apu := b }) ?_)
      rw [Apu.writeNr44_trigger _ hv, Noise.trigger, Noise.period_eq]
      rfl
  · have ha := mapsTo_wave halo hahi
    have hb := mapsTo_wave hblo hbhi
    have hwrite : s.write8 a v = { s with apu := { s.apu with wave := s.apu.wave.write (a.toNat - 0xFF30) v } } :=
      s.write8_of_mapsTo v ha
    refine ⟨s.read8_of_mapsTo ha, by rw [hwrite], fun hwf => ?_⟩
    have hsame : b.toNat - 0xFF30 = a.toNat - 0xFF30 ↔ b = a := by
      rw [← BitVec.toNat_inj]
      omega
    rw [State.read8_of_mapsTo _ hb, State.read8_of_mapsTo _ hb, hwrite, ← if_congr hsame rfl rfl]
    exact Memory.read_write _ _ _ _ hwf

end Sys2Proof.Machine

/-!
SUPPORT. The audio processor in time: ticks, cycles and outputs, the sequencer, the samples and the mixer.
-/
namespace Sys2Proof.Machine

/-! ### Ticks -/

theorem Chan.lengthTick_eq (c : Chan) :
    c.lengthTick
      = if c.lenEn = true ∧ 0 < c.len then { c with len := c.len - 1, enabled := c.enabled && decide (c.len ≠ 1) }
        else c := by
  have hcond : (c.lenEn && decide (c.len > 0)) = true ↔ c.lenEn = true ∧ 0 < c.len := by
    rw [Bool.and_eq_true, decide_eq_true_eq]
  unfold Chan.lengthTick
  by_cases h : c.lenEn = true ∧ 0 < c.len
  · have hlast : c.len - 1 ≠ 0 ↔ c.len ≠ 1 := by omega
    rw [if_pos h, if_pos (hcond.2 h), decide_eq_decide.2 hlast]
  · rw [if_neg h, if_neg (mt hcond.1 h)]

theorem Env.stepVolume_eq (e : Env) :
    e.stepVolume
      = if e.active = false then e
        else { e with
          vol := if e.dir = true ∧ e.vol.toNat < 15 then e.vol + 1
            else if e.dir = false ∧ 0 < e.vol.toNat then e.vol - 1 else e.vol
          active := decide ((e.dir = true ∧ e.vol.toNat < 15) ∨ (e.dir = false ∧ 0 < e.vol.toNat)) } := by
  have hmax : e.vol ≠ 15 ↔ e.vol.toNat < 15 := by bv_omega
  have hmin : e.vol ≠ 0 ↔ 0 < e.vol.toNat := by bv_omega
  unfold Env.stepVolume
  cases hactive : e.active with
  | false => rfl
  | true =>
    simp only [if_true, Bool.true_eq_false, if_false, hmax, hmin]
    cases e.dir with
    | true => by_cases hup : e.vol.toNat < 15 <;> simp [hup]
    | false => by_cases hdown : 0 < e.vol.toNat <;> simp [hdown]

theorem Env.tick_eq (e : Env) :
    e.tick
      = if e.period = 0 then e
        else if 1 < e.timer.toNat then { e with timer := e.timer - 1 }
        else { e with timer := e.period }.stepVolume := by
  have hlast : (if e.timer = 0 then e.timer else e.timer - 1) = 0 ↔ ¬ 1 < e.timer.toNat := by
    split
    next h => simp [h]
    next h => bv_omega
  unfold Env.tick
  dsimp only
  split
  · rfl
  by_cases h : 1 < e.timer.toNat
  · rw [if_neg (fun hc => hlast.1 hc h), if_pos h, if_neg (by bv_omega)]
  · rw [if_pos (hlast.2 h), if_neg h]

/-! ### The sweep -/

/-- The frequency a sweep moves `f` to (R665). -/
def Sweep.moved (w : Sweep) (f : Nat) : Nat := if w.dir then f - f / 2 ^ w.step.toNat else f + f / 2 ^ w.step.toNat

/-- Channel 1 disabled by an overflow (R664). -/
def Pulse.disabled (q : Pulse) : Pulse := { q with ch := { q.ch with enabled := false } }

theorem Sweep.calc_eq_moved (w : Sweep) : w.calc = w.moved w.shadow.toNat := w.calc_eq

/-- A calculation within the range writes the frequency back and checks once more (R664). -/
theorem sweepApply_eq (w : Sweep) (p : Pulse) :
    sweepApply w p
      = if 2047 < w.moved w.shadow.toNat then (w, p.disabled)
        else if w.step = 0 then (w, p)
        else ({ w with shadow := BitVec.ofNat 11 (w.moved w.shadow.toNat) },
          if 2047 < w.moved (w.moved w.shadow.toNat) then
            Pulse.disabled { p with freq := BitVec.ofNat 11 (w.moved w.shadow.toNat) }
          else { p with freq := BitVec.ofNat 11 (w.moved w.shadow.toNat) }) := by
  unfold sweepApply
  rw [w.calc_eq_moved]
  split
  · rfl
  next hlow =>
    have hnew : (BitVec.ofNat 11 (w.moved w.shadow.toNat)).toNat = w.moved w.shadow.toNat :=
      Nat.mod_eq_of_lt (by omega)
    have hagain : Sweep.calc { w with shadow := BitVec.ofNat 11 (w.moved w.shadow.toNat) }
        = w.moved (w.moved w.shadow.toNat) := by
      rw [Sweep.calc_eq_moved]
      exact congrArg w.moved hnew
    by_cases hstep : w.step = 0
    · rw [if_neg (not_not_intro hstep), if_pos hstep]
    · rw [if_pos hstep, if_neg hstep]
      dsimp only
      rw [hagain]
      by_cases hover : 2047 < w.moved (w.moved w.shadow.toNat)
      · rw [if_pos hover, decide_eq_false (Nat.not_le_of_lt hover), Bool.and_false]
        rfl
      · rw [if_neg hover, decide_eq_true (Nat.le_of_not_lt hover), Bool.and_true]

theorem sweepTick_eq (w : Sweep) (p : Pulse) :
    sweepTick w p
      = if 1 < w.timer then ({ w with timer := w.timer - 1 }, p)
        else if w.enable = false ∨ w.pace = 0 then ({ w with timer := w.reload }, p)
        else sweepApply { w with timer := w.reload } p := by
  have hidle : (w.enable && decide (w.pace ≠ 0)) = true ↔ ¬ (w.enable = false ∨ w.pace = 0) := by
    rw [Bool.and_eq_true, decide_eq_true_eq, not_or, Bool.not_eq_false]
  unfold sweepTick
  dsimp only
  by_cases h : 1 < w.timer
  · rw [if_neg (by omega), if_pos h]
  · rw [if_pos (by omega), if_neg h, if_congr hidle rfl rfl, ite_not]

/-! ### The channels' cycles -/

/-- A frequency timer counts down and starts again at the period (R675 to R677). -/
def Chan.count (c : Chan) (period : Nat) : Chan := { c with ftimer := if c.ftimer ≤ 1 then period else c.ftimer - 1 }

theorem Pulse.cycle_eq (p : Pulse) :
    p.cycle
      = { p with
          ch := p.ch.count ((2048 - p.freq.toNat) * 4), dutyPos := if p.ch.ftimer ≤ 1 then p.dutyPos + 1 else p.dutyPos } := by
  unfold Pulse.cycle Chan.count
  by_cases h : p.ch.ftimer ≤ 1
  · rw [if_pos (by omega), if_pos h, if_pos h]
    rfl
  · rw [if_neg (by omega), if_neg h, if_neg h]

theorem WaveCh.cycle_eq (w : WaveCh) :
    w.cycle
      = { w with
          ch := w.ch.count ((2048 - w.freq.toNat) * 2), pos := if w.ch.ftimer ≤ 1 then w.pos + 1 else w.pos } := by
  unfold WaveCh.cycle Chan.count
  by_cases h : w.ch.ftimer ≤ 1
  · rw [if_pos (by omega), if_pos h, if_pos h]
    rfl
  · rw [if_neg (by omega), if_neg h, if_neg h]

theorem Noise.cycle_eq (n : Noise) :
    n.cycle
      = { n with ch := n.ch.count n.period, lfsr := if n.ch.ftimer ≤ 1 then lfsrNext n.lfsr n.width else n.lfsr } := by
  unfold Noise.cycle Chan.count
  by_cases h : n.ch.ftimer ≤ 1
  · rw [if_pos (by omega), if_pos h, if_pos h]
  · rw [if_neg (by omega), if_neg h, if_neg h]

theorem getLsbD_bit (b : Bool) (n k : Nat) (hk : k < 15) :
    ((BitVec.setWidth 15 (BitVec.ofBool b)) <<< n).getLsbD k = (decide (k = n) && b) := by
  rw [BitVec.getLsbD_shiftLeft, BitVec.getLsbD_setWidth, BitVec.getLsbD_ofBool, decide_eq_true hk, Bool.true_and]
  by_cases hkn : k < n
  · simp [hkn, Nat.ne_of_lt hkn]
  · rw [decide_eq_false hkn, Bool.not_false, Bool.true_and, decide_eq_true (by omega), Bool.true_and,
      decide_eq_decide.2 (show k - n = 0 ↔ k = n by omega)]

/-- One shift of the noise register, bit by bit (R677). -/
theorem getLsbD_lfsrNext (v : BitVec 15) (width : Bool) {k : Nat} (hk : k < 15) :
    (lfsrNext v width).getLsbD k
      = if k = 14 ∨ (k = 6 ∧ width = true) then v.getLsbD 0 != v.getLsbD 1 else v.getLsbD (k + 1) := by
  have hmask : ∀ k, k < 15 → (~~~(0x0040 : BitVec 15)).getLsbD k = decide (k ≠ 6) := by decide
  have htop : v.getLsbD (14 + 1) = false := BitVec.getLsbD_of_ge _ _ (by decide)
  have hxor : (v.getLsbD 0 != v.getLsbD 1) = (v.getLsbD 0 ^^ v.getLsbD 1) := rfl
  unfold lfsrNext
  dsimp only
  rw [hxor]
  generalize (v.getLsbD 0 ^^ v.getLsbD 1) = b
  have hshift : ((v >>> 1) ||| (BitVec.setWidth 15 (BitVec.ofBool b) <<< 14)).getLsbD k
      = if k = 14 then b else v.getLsbD (k + 1) := by
    rw [BitVec.getLsbD_or, BitVec.getLsbD_ushiftRight, getLsbD_bit b 14 k hk, Nat.add_comm 1 k]
    by_cases h14 : k = 14
    · subst h14
      rw [htop]
      simp
    · simp [h14]
  cases width with
  | false =>
    rw [if_neg (by decide), hshift]
    simp
  | true =>
    rw [if_pos rfl, BitVec.getLsbD_or, BitVec.getLsbD_and, hshift, hmask k hk, getLsbD_bit b 6 k hk]
    by_cases h6 : k = 6
    · simp [h6]
    · simp [h6]

/-! ### The channels' outputs -/

theorem Pulse.output_eq (p : Pulse) :
    p.output
      = (if p.duty = 0 then [0, 0, 0, 0, 0, 0, 0, 1] else if p.duty = 1 then [1, 0, 0, 0, 0, 0, 0, 1]
          else if p.duty = 2 then [1, 0, 0, 0, 0, 1, 1, 1] else [0, 1, 1, 1, 1, 1, 1, 0]).getD p.dutyPos.toNat 0
        * p.env.vol.toNat := by
  have hrow : ∀ (d : BitVec 2) (k : BitVec 3), ((dutyRow d).getD k.toNat false).toNat
      = (if d = 0 then [0, 0, 0, 0, 0, 0, 0, 1] else if d = 1 then [1, 0, 0, 0, 0, 0, 0, 1]
          else if d = 2 then [1, 0, 0, 0, 0, 1, 1, 1] else [0, 1, 1, 1, 1, 1, 1, 0]).getD k.toNat 0 := by decide
  rw [← hrow p.duty p.dutyPos]
  unfold Pulse.output
  cases (dutyRow p.duty).getD p.dutyPos.toNat false with
  | false => exact (Nat.zero_mul _).symm
  | true => exact (Nat.one_mul _).symm

theorem waveSample_toNat (wave : Memory) (k : BitVec 5) :
    (waveSample wave k).toNat
      = if k.toNat % 2 = 0 then (wave.read (k.toNat / 2)).toNat / 16 else (wave.read (k.toNat / 2)).toNat % 16 := by
  have hodd : k.getLsbD 0 = true ↔ ¬ k.toNat % 2 = 0 := by
    rw [BitVec.getLsbD, Nat.testBit_zero, decide_eq_true_eq]
    omega
  have hbyte := (wave.read (k.toNat / 2)).isLt
  unfold waveSample
  dsimp only
  rw [if_congr hodd rfl rfl, ite_not]
  split
  · rw [BitVec.extractLsb'_toNat, Nat.shiftRight_eq_div_pow]
    omega
  · rw [BitVec.extractLsb'_toNat, Nat.shiftRight_zero]

theorem WaveCh.output_eq (w : WaveCh) (wave : Memory) :
    w.output wave
      = (if w.pos.toNat % 2 = 0 then (wave.read (w.pos.toNat / 2)).toNat / 16 else (wave.read (w.pos.toNat / 2)).toNat % 16)
        / (if w.level = 0 then 16 else if w.level = 1 then 1 else if w.level = 2 then 2 else 4) := by
  have hlevel : ∀ l : BitVec 2, 2 ^ levelShift l = if l = 0 then 16 else if l = 1 then 1 else if l = 2 then 2 else 4 := by
    decide
  rw [WaveCh.output, Nat.shiftRight_eq_div_pow, waveSample_toNat, hlevel]

/-! ### The sequencer -/

theorem Apu.fireSequencer_eq (a : Apu) (phases : List (BitVec 3)) (p : BitVec 3) :
    let len (c : Chan) : Chan := if p ∈ phases then c.lengthTick else c
    let env (e : Env) : Env := if p = 7 then e.tick else e
    let one : Pulse := { a.ch1 with ch := len a.ch1.ch }
    let swept := if p = 2 ∨ p = 6 then sweepTick a.sweep one else (a.sweep, one)
    a.fireSequencer phases p
      = if a.on then
          { a with
            sweep := swept.1
            ch1 := { swept.2 with env := env swept.2.env }
            ch2 := { a.ch2 with ch := len a.ch2.ch, env := env a.ch2.env }
            ch3 := { a.ch3 with ch := len a.ch3.ch }
            ch4 := { a.ch4 with ch := len a.ch4.ch, env := env a.ch4.env } }
        else a := by
  intro len env one swept
  have hlen : (if phases.contains p then a.lengthTicks else a)
      = { a with
          ch1 := one, ch2 := { a.ch2 with ch := len a.ch2.ch }, ch3 := { a.ch3 with ch := len a.ch3.ch }
          ch4 := { a.ch4 with ch := len a.ch4.ch } } := by
    rw [if_congr List.contains_iff_mem rfl rfl]
    unfold Apu.lengthTicks
    by_cases hp : p ∈ phases
    · simp only [one, len, if_pos hp]
    · simp only [one, len, if_neg hp]
  have hsweep : ∀ b : Apu, (if p = 2 ∨ p = 6 then b.sweepTicks else b)
      = { b with
          sweep := (if p = 2 ∨ p = 6 then sweepTick b.sweep b.ch1 else (b.sweep, b.ch1)).1
          ch1 := (if p = 2 ∨ p = 6 then sweepTick b.sweep b.ch1 else (b.sweep, b.ch1)).2 } := fun b => by split <;> rfl
  have henvelope : ∀ b : Apu, (if p = 7 then b.envelopeTicks else b)
      = { b with
          ch1 := { b.ch1 with env := env b.ch1.env }, ch2 := { b.ch2 with env := env b.ch2.env }
          ch4 := { b.ch4 with env := env b.ch4.env } } := fun b => by
    unfold Apu.envelopeTicks
    by_cases hp : p = 7
    · simp only [env, if_pos hp]
    · simp only [env, if_neg hp]
  unfold Apu.fireSequencer
  dsimp only
  rw [hlen, hsweep, henvelope]

/-- The clock of the sequencer and its phase. -/
def Apu.sequencer (a : Apu) : Nat × BitVec 3 := (a.seqClock, a.seqPhase)

theorem Apu.cycle_sequencer (a : Apu) (ps : List (BitVec 3)) :
    (a.cycle ps).sequencer = if a.seqClock + 1 = 8192 then (0, a.seqPhase + 1) else (a.seqClock + 1, a.seqPhase) := by
  have hseq : (a.sequencerCycle ps).sequencer
      = if a.seqClock + 1 = 8192 then (0, a.seqPhase + 1) else (a.seqClock + 1, a.seqPhase) := by
    unfold Apu.sequencerCycle
    split <;> rfl
  rw [← hseq]
  unfold Apu.cycle Apu.channelCycle
  split <;> rfl

/-- The sequencer counts every cycle, whatever the master enable is (R660, R661). -/
theorem State.apuAdvance_sequencer : ∀ (n : Nat) (s : State), s.apu.seqClock < 8192 →
    (s.apuAdvance n).apu.seqClock = (s.apu.seqClock + n) % 8192
      ∧ (s.apuAdvance n).apu.seqPhase = s.apu.seqPhase + BitVec.ofNat 3 ((s.apu.seqClock + n) / 8192)
  | 0, s, h => by
    rw [Nat.add_zero, Nat.mod_eq_of_lt h, Nat.div_eq_of_lt h]
    exact ⟨rfl, (BitVec.add_zero _).symm⟩
  | n + 1, s, h => by
    have hcycle : (s.apuCycle.apu.seqClock, s.apuCycle.apu.seqPhase)
        = if s.apu.seqClock + 1 = 8192 then (0, s.apu.seqPhase + 1) else (s.apu.seqClock + 1, s.apu.seqPhase) :=
      s.apu.cycle_sequencer s.par.lengthPhases
    obtain ⟨hclock, hphase⟩ := Prod.ext_iff.1 hcycle
    dsimp only at hclock hphase
    have hbelow : s.apuCycle.apu.seqClock < 8192 := by
      rw [hclock]
      split <;> dsimp only <;> omega
    obtain ⟨ihclock, ihphase⟩ := State.apuAdvance_sequencer n s.apuCycle hbelow
    show (s.apuCycle.apuAdvance n).apu.seqClock = _ ∧ (s.apuCycle.apuAdvance n).apu.seqPhase = _
    rw [ihclock, ihphase, hclock, hphase]
    split
    next hwrap =>
      have hdiv : (s.apu.seqClock + (n + 1)) / 8192 = n / 8192 + 1 := by omega
      refine ⟨by dsimp only; omega, ?_⟩
      rw [hdiv, BitVec.add_assoc, BitVec.ofNat_add, BitVec.add_comm 1]
      simp
    next => exact ⟨by dsimp only; congr 1; omega, by dsimp only; congr 3; omega⟩

/-! ### The samples -/

theorem State.apuAdvance_add : ∀ (m n : Nat) (s : State), (s.apuAdvance m).apuAdvance n = s.apuAdvance (m + n)
  | 0, n, s => by rw [Nat.zero_add]; rfl
  | m + 1, n, s => by
    rw [Nat.add_right_comm]
    exact State.apuAdvance_add m n s.apuCycle

/-- A sample is put out each time the output counter runs out (R690). -/
theorem State.apuAdvance_samples : ∀ (n : Nat) (s : State), 1 ≤ s.apu.sampleClock →
    s.apu.sampleClock ≤ s.par.samplePeriodPred + 1 →
    (s.apuAdvance n).host.samples.length
      = s.host.samples.length + (s.par.samplePeriodPred + 1 - s.apu.sampleClock + n) / (s.par.samplePeriodPred + 1)
  | 0, s, hlow, _ => by
    rw [Nat.div_eq_of_lt (by omega)]
    rfl
  | n + 1, s, hlow, hhigh => by
    have hclock : s.apuCycle.apu.sampleClock
        = if s.apu.sampleClock ≤ 1 then s.par.samplePeriodPred + 1 else s.apu.sampleClock - 1 := by rw [s.apuCycle_eq]
    have hsamples : s.apuCycle.host.samples.length
        = if s.apu.sampleClock ≤ 1 then s.host.samples.length + 1 else s.host.samples.length := by
      rw [s.apuCycle_eq]
      dsimp only
      split
      · rw [List.length_append, List.length_singleton]
      · rfl
    have ih := State.apuAdvance_samples n s.apuCycle (by rw [hclock]; split <;> omega)
      (by rw [hclock]; show _ ≤ s.par.samplePeriodPred + 1; split <;> omega)
    have hpar : s.apuCycle.par = s.par := rfl
    show (s.apuCycle.apuAdvance n).host.samples.length = _
    rw [ih, hclock, hsamples, hpar]
    by_cases hdue : s.apu.sampleClock ≤ 1
    · have hone : s.apu.sampleClock = 1 := Nat.le_antisymm hdue hlow
      rw [if_pos hdue, if_pos hdue, hone, Nat.sub_self, Nat.zero_add, Nat.add_sub_cancel,
        Nat.add_comm n 1, ← Nat.add_assoc, Nat.add_div_left n (show 0 < s.par.samplePeriodPred + 1 from Nat.succ_pos _)]
      omega
    · rw [if_neg hdue, if_neg hdue,
        show s.par.samplePeriodPred + 1 - (s.apu.sampleClock - 1) + n
          = s.par.samplePeriodPred + 1 - s.apu.sampleClock + (n + 1) by omega]

/-! ### The mixer -/

/-- The output of a channel on a side of the mixer: silent unless it is enabled with its DAC on and routed there (R685). -/
def Chan.part (c : Chan) (routed : Bool) (out : Nat) : Nat := if c.enabled = true ∧ c.dac = true ∧ routed = true then out else 0

theorem Chan.part_eq (c : Chan) (routed : Bool) (out : Nat) :
    (if c.audible && routed then out else 0) = c.part routed out := by
  refine if_congr ?_ rfl rfl
  rw [Chan.audible, Bool.and_eq_true, Bool.and_eq_true, and_assoc]

theorem Chan.part_le (c : Chan) (routed : Bool) {out n : Nat} (h : out ≤ n) : c.part routed out ≤ n := by
  unfold Chan.part
  split
  · exact h
  · exact Nat.zero_le _

theorem Apu.bus_eq (a : Apu) (k : Nat) :
    a.bus k
      = a.ch1.ch.part (a.nr51.getLsbD k) a.ch1.output + a.ch2.ch.part (a.nr51.getLsbD (k + 1)) a.ch2.output
        + a.ch3.ch.part (a.nr51.getLsbD (k + 2)) (a.ch3.output a.wave)
        + a.ch4.ch.part (a.nr51.getLsbD (k + 3)) a.ch4.output := by
  unfold Apu.bus
  simp only [Chan.part_eq]

theorem Pulse.output_le (p : Pulse) : p.output ≤ 15 := by
  have hvol := p.env.vol.isLt
  unfold Pulse.output
  split <;> omega

theorem WaveCh.output_le (w : WaveCh) (wave : Memory) : w.output wave ≤ 15 := by
  have hsample := (waveSample wave w.pos).isLt
  have hshift : w.output wave ≤ (waveSample wave w.pos).toNat := Nat.shiftRight_le _ _
  omega

theorem Noise.output_le (n : Noise) : n.output ≤ 15 := by
  have hvol := n.env.vol.isLt
  unfold Noise.output
  split <;> omega

/-- Four channels of at most 15 (R678). -/
theorem Apu.bus_le (a : Apu) (k : Nat) : a.bus k ≤ 60 := by
  have h1 := a.ch1.ch.part_le (a.nr51.getLsbD k) a.ch1.output_le
  have h2 := a.ch2.ch.part_le (a.nr51.getLsbD (k + 1)) a.ch2.output_le
  have h3 := a.ch3.ch.part_le (a.nr51.getLsbD (k + 2)) (a.ch3.output_le a.wave)
  have h4 := a.ch4.ch.part_le (a.nr51.getLsbD (k + 3)) a.ch4.output_le
  rw [a.bus_eq]
  omega

/-- One side of the mix: at most 60, at a volume of at most eight (R685). -/
theorem Apu.side_le (a : Apu) (k : Nat) {volume : Nat} (h : volume < 8) : a.bus k * (volume + 1) ≤ 480 :=
  Nat.mul_le_mul (a.bus_le k) (Nat.succ_le_of_lt h)

theorem Apu.mix_eq (a : Apu) (m : Nat) :
    a.mix m
      = if a.on then (min (a.bus 4 * (a.nr50.toNat / 16 % 8 + 1)) m, min (a.bus 0 * (a.nr50.toNat % 8 + 1)) m)
        else (0, 0) := by
  unfold Apu.mix
  rw [BitVec.extractLsb'_toNat, BitVec.extractLsb'_toNat, Nat.shiftRight_eq_div_pow, Nat.shiftRight_zero]

theorem Apu.mix_le (a : Apu) (m : Nat) : (a.mix m).1 ≤ m ∧ (a.mix m).2 ≤ m := by
  rw [a.mix_eq]
  split
  · exact ⟨Nat.min_le_right .., Nat.min_le_right ..⟩
  · exact ⟨Nat.zero_le _, Nat.zero_le _⟩

theorem Apu.mix_of_le {a : Apu} {m : Nat} (h : 480 ≤ m) : a.mix m = a.mix 480 := by
  have hleft : a.bus 4 * (a.nr50.toNat / 16 % 8 + 1) ≤ 480 := a.side_le 4 (Nat.mod_lt _ (by decide))
  have hright : a.bus 0 * (a.nr50.toNat % 8 + 1) ≤ 480 := a.side_le 0 (Nat.mod_lt _ (by decide))
  rw [a.mix_eq, a.mix_eq, Nat.min_eq_left hleft, Nat.min_eq_left hright, Nat.min_eq_left (Nat.le_trans hleft h),
    Nat.min_eq_left (Nat.le_trans hright h)]

/-- Settles O59: the ticks, cycles and outputs of a channel, the sequencer as its three ticks, the counters by induction on the
cycles, and the mixer by its sides. -/
theorem sequencerAndSamples : Obligations.SequencerAndSamples := by
  refine ⟨Chan.lengthTick_eq, fun e => ?_, fun w p => ?_, fun p w n wave => ?_,
    fun a phases p => ⟨a.fireSequencer_eq phases p, rfl⟩, fun s n hseq => ?_, fun s n => State.apuAdvance_samples n s,
    fun s m n => ⟨s.apuCycle_eq, State.apuAdvance_add m n s⟩,
    fun a m => ⟨?_, (a.mix_le m).1, (a.mix_le m).2, Apu.mix_of_le⟩⟩
  · exact e.tick_eq.trans (by rw [Env.stepVolume_eq])
  · refine (sweepTick_eq w p).trans ?_
    rw [sweepApply_eq]
    rfl
  · intro count x shifted row byte
    have hnoise := n.cycle_eq
    have hlfsr : n.cycle.lfsr = if n.ch.ftimer ≤ 1 then lfsrNext n.lfsr n.width else n.lfsr := congrArg Noise.lfsr hnoise
    refine ⟨p.cycle_eq, w.cycle_eq, ?_, fun h => ?_, fun h k hk => ?_, p.output_eq, w.output_eq wave, rfl⟩
    · rw [hlfsr, hnoise, n.period_eq]
      rfl
    · rw [hlfsr, if_neg (Nat.not_le_of_lt h)]
    · rw [hlfsr, if_pos h]
      exact getLsbD_lfsrNext n.lfsr n.width hk
  · obtain ⟨hclock, hphase⟩ := State.apuAdvance_sequencer n s hseq
    obtain ⟨a, h, he⟩ := State.apuAdvance_eq n s
    exact ⟨hclock, hphase, by rw [he], by rw [he], by rw [he]⟩
  · rw [a.mix_eq, a.bus_eq, a.bus_eq]
    rfl

end Sys2Proof.Machine
